-- ==== Sys2Proof/Word.lean ====
section
/-! DEFINITION. The byte of frames, messages and the configuration memory (11_layouts_and_electrical_summary.md). -/

namespace Sys2Proof

/-- One byte of a frame's payload, of the reference message or of the configuration memory. -/
abbrev Byte := BitVec 8

end Sys2Proof
end

