-- ==== Sys2Proof/Syntax.lean ====
section
/-! DEFINITION. The commands: one constructor of `Instr` for each row of spec/opcode_table.json. The table gives its rows
no operands; those below are the data that the rule of the row takes from outside the station (log 1). -/

namespace Sys2Proof

/-- What an ASK frame carries before its request code (11.2): the asker is the frame's source station. -/
structure Ask where
  asker : Nat
  target : Nat
  seq : Nat
deriving DecidableEq, Repr

/-- The unfiltered levels of the sensor lines on one crystal cycle, one bit a line, set = rest, active or closed
(11.6), and whether the backup supply stands at or above its hold level (R177). -/
structure Inputs where
  rest : BitVec 8
  twelve : BitVec 4
  feedback : BitVec 6
  backup : Bool
deriving DecidableEq, Repr

/-- The error a sender records in its own frame (R51). -/
inductive TxError where
  | bit
  | form
  | brk
deriving DecidableEq, Repr

/-- The commands of the station, in the order of spec/opcode_table.json. -/
inductive Instr where
  /-- LOCAL_SECOND_BOUNDARY (R5). -/
  | localSecondBoundary
  /-- BACKUP_SECOND_BOUNDARY (R18). -/
  | backupSecondBoundary
  /-- TOWER_SECOND (R14). -/
  | towerSecond
  /-- DIAL_BOUNDARY (R141). -/
  | dialBoundary
  /-- CIVIL_MINUTE (R126). -/
  | civilMinute
  /-- CIVIL_QUARTER (R14). -/
  | civilQuarter
  /-- CIVIL_HOUR (R103). -/
  | civilHour
  /-- MARK_MOMENT (R21). -/
  | markMoment
  /-- START_BIT (R48): whether this station drives it, and the recessive bits in a row read since the last frame. -/
  | startBit (own : Bool) (recessive : Nat)
  /-- ARBITRATION_LOST (R49). -/
  | arbitrationLost
  /-- ATTEMPT_ERROR (R59). -/
  | attemptError (e : TxError)
  /-- ATTEMPT_COMPLETE_HEARD (R50). -/
  | attemptCompleteHeard
  /-- ATTEMPT_COMPLETE_UNHEARD (R59). -/
  | attemptCompleteUnheard
  /-- RECEIVE_ERROR (R51): the bits read after the start bit, true = recessive. -/
  | receiveError (bits : List Bool)
  /-- MUTE_RECOVERY (R55): the bits read on the line since the last count, true = recessive. -/
  | muteRecovery (bits : List Bool)
  /-- MARK_RECEIVED (R24): source station and payload. -/
  | markReceived (src : Nat) (payload : List Byte)
  /-- PEER_EXPIRY (R25). -/
  | peerExpiry (peer : Nat)
  /-- REFERENCE_MESSAGE (R36): the bytes, and whether every stop bit was read high. -/
  | referenceMessage (bytes : List Byte) (framed : Bool)
  /-- REFERENCE_MESSAGE_EXPIRY (R36). -/
  | referenceMessageExpiry
  /-- REFERENCE_PULSE (R37). -/
  | referencePulse
  /-- REFERENCE_LOST (R39). -/
  | referenceLost
  /-- CUE_RECEIVED (R94). -/
  | cueReceived (src : Nat) (payload : List Byte)
  /-- HALT_KEY_RECEIVED (R108). -/
  | haltKeyReceived (src : Nat) (payload : List Byte)
  /-- HALT_SILENCE_RECEIVED (R109). -/
  | haltSilenceReceived (src : Nat) (payload : List Byte)
  /-- HALT_RESUME_RECEIVED (R110). -/
  | haltResumeReceived (src : Nat) (payload : List Byte)
  /-- DRAW_RECEIVED (R164). -/
  | drawReceived (src : Nat) (payload : List Byte)
  /-- FREE_RECEIVED (R164). -/
  | freeReceived (src : Nat) (payload : List Byte)
  /-- ANSWER_RECEIVED (R61). -/
  | answerReceived (src : Nat) (payload : List Byte)
  /-- DRAW_ENTRY_EXPIRY (R164). -/
  | drawEntryExpiry (station id : Nat)
  /-- QUIET_PERIOD_END (R167). -/
  | quietPeriodEnd
  /-- PENDING_WAIT_LONG (R172). -/
  | pendingWaitLong (id : Nat)
  /-- PERFORMANCE_PLAY (R97). -/
  | performancePlay (slot : Nat)
  /-- NOTE_FEED (R98). -/
  | noteFeed (slot : Nat)
  /-- PERFORMANCE_END (R101). -/
  | performanceEnd (slot : Nat)
  /-- HOUR_WAIT_DEADLINE (R104). -/
  | hourWaitDeadline
  /-- RECENT_KEY_EXPIRY (R87). -/
  | recentKeyExpiry
  /-- HAMMER_LAUNCH (R71). -/
  | hammerLaunch (channel : Nat)
  /-- LATE_LIMIT_EXPIRY (R72). -/
  | lateLimitExpiry (channel : Nat)
  /-- WAITING_NOTE_EXPIRY (R69). -/
  | waitingNoteExpiry (channel : Nat)
  /-- HAMMER_PULSE_END (R75). -/
  | hammerPulseEnd (channel : Nat)
  /-- RETURN_SENSOR_REST (R76). -/
  | returnSensorRest (channel : Nat)
  /-- REPEAT_INTERVAL_PASSED (R76). -/
  | repeatIntervalPassed (channel : Nat)
  /-- RETURN_TIMEOUT (R76). -/
  | returnTimeout (channel : Nat)
  /-- RETURN_SENSOR_LOSS (R77). -/
  | returnSensorLoss (channel : Nat)
  /-- REST_LOSS_LIMIT (R77). -/
  | restLossLimit (channel : Nat)
  /-- DIAL_PULSE_BEGIN (R146). -/
  | dialPulseBegin (dial : Nat)
  /-- DIAL_PULSE_END (R143). -/
  | dialPulseEnd (dial : Nat)
  /-- DIAL_RENEWAL_DUE (R147). -/
  | dialRenewalDue (dial : Nat)
  /-- CIRCUIT_START_END (R160). -/
  | circuitStartEnd (circuit : Nat)
  /-- FEEDBACK_CHECK (R162). -/
  | feedbackCheck (circuit : Nat)
  /-- CIRCUIT_RENEWAL_DUE (R170). -/
  | circuitRenewalDue (circuit : Nat)
  /-- STORE_COMPLETE (R135): the block that read back different, if one did, and the bytes it is then left holding. -/
  | storeComplete (failed : Option Nat) (held : List Byte)
  /-- SUPPLY_GOOD_FALL (R176). -/
  | supplyGoodFall
  /-- RESET_ASSERT (R176). -/
  | resetAssert
  /-- START_MOMENT (R176). -/
  | startMoment
  /-- BACKUP_SUPPLY_LOW (R177). -/
  | backupSupplyLow
  /-- CHECKING_END (R178). -/
  | checkingEnd
  /-- LOADING_END (R179): whether the memory answers the read, and the bytes rewritten on the board since the last one. -/
  | loadingEnd (answers : Bool) (rewritten : List Host.Cell)
  /-- LISTENING_TIMEOUT (R181). -/
  | listeningTimeout
  /-- RESTART_LINE (R183). -/
  | restartLine
  /-- STATUS (R187). -/
  | status (a : Ask) (args : List Byte)
  /-- READ_TIME (R16). -/
  | readTime (a : Ask) (args : List Byte)
  /-- SET_TIME (R40). -/
  | setTime (a : Ask) (args : List Byte)
  /-- READ_ITEM (R188). -/
  | readItem (a : Ask) (args : List Byte)
  /-- WRITE_ITEM_CALENDAR (R194). -/
  | writeItemCalendar (a : Ask) (args : List Byte)
  /-- WRITE_ITEM_DUSK (R125). -/
  | writeItemDusk (a : Ask) (args : List Byte)
  /-- WRITE_ITEM_SCENE (R125). -/
  | writeItemScene (a : Ask) (args : List Byte)
  /-- OPEN_TUNE (R118). -/
  | openTune (a : Ask) (args : List Byte)
  /-- ADD_NOTES (R119). -/
  | addNotes (a : Ask) (args : List Byte)
  /-- CLOSE_TUNE (R120). -/
  | closeTune (a : Ask) (args : List Byte)
  /-- DELETE_TUNE (R121). -/
  | deleteTune (a : Ask) (args : List Byte)
  /-- STORE (R135). -/
  | store (a : Ask) (args : List Byte)
  /-- START (R92). -/
  | start (a : Ask) (args : List Byte)
  /-- STRIKE (R80). -/
  | strike (a : Ask) (args : List Byte)
  /-- HALT_KEY (R111). -/
  | haltKey (a : Ask) (args : List Byte)
  /-- SILENCE (R111). -/
  | silence (a : Ask) (args : List Byte)
  /-- RESUME (R111). -/
  | resume (a : Ask) (args : List Byte)
  /-- LIGHT_SCENE (R157). -/
  | lightScene (a : Ask) (args : List Byte)
  /-- DIAL_SET (R151). -/
  | dialSet (a : Ask) (args : List Byte)
  /-- RECHECK (R79). -/
  | recheck (a : Ask) (args : List Byte)
  /-- CLEAR_SUMMARY (R189). -/
  | clearSummary (a : Ask) (args : List Byte)
  /-- RESTART (R183). -/
  | restart (a : Ask) (args : List Byte)
  /-- UNKNOWN_REQUEST (R185): the request code. -/
  | unknownRequest (a : Ask) (code : Nat) (args : List Byte)
  /-- CRYSTAL_CYCLE (R4): the unfiltered input levels on this cycle. -/
  | crystalCycle (inputs : Inputs)
  /-- BREAK_RECEIVED (R52). -/
  | breakReceived
  /-- FRAME_DISCARDED (R61): source station. -/
  | frameDiscarded (src : Nat)
deriving DecidableEq, Repr

end Sys2Proof
end

