-- ==== Sys2Proof/Decode.lean ====
section
/-! DEFINITION. The words of spec/opcode_table.json: no row of the table has bits ("fixed" and "fields" are absent from
every row), so no word spells a command (log 37). -/

namespace Sys2Proof

/-- The command that a table word spells: none, for every word, since no row of the table gives bits. -/
def decodeTableWord (_nbits _w : Nat) : Option Instr := none

end Sys2Proof
end

