-- ==== Sys2Proof/Config.lean ====
section
/-! DEFINITION. What the part fixes once for all, and the values the manual leaves open (free values: constants without
a body, of which nothing can be proved but their type). -/

namespace Sys2Proof.Config

/-- Crystal cycles of one local second (R1). -/
def cyclesPerSecond : Nat := 32768

/-- Local seconds before the second count returns to 0 (R1). -/
def secondSpan : Nat := 4294967296

/-- Microseconds of a day (R2). -/
def usPerDay : Nat := 86400000000

/-- Tick units of a microsecond (R2). -/
def unitsPerUs : Nat := 512

/-- Days before the day number returns to 0 (R2). -/
def daySpan : Nat := 65536

/-- Bytes of the configuration memory (11.4: at least 16,384). -/
def memBytes : Nat := 16384

/-- Cycles a new input level must last before the filter takes it: 2 ms are 65.536 cycles (R76, R149, R162). -/
def filterCycles : Nat := 66

/-- FREE VALUE (log 14): whether a START's start offset, which is a whole number of milliseconds on the line (R90),
is rounded up, for the microseconds beyond the last whole millisecond. R90 states no rounding. -/
opaque msRoundsUp : Nat → Bool

/-- FREE VALUE (log 15): the civil minute of day recorded with the run time when a reconciled OFFSET entry is taken as
fired (R133), for the entry's standard minute and the civil offset in force before. R133 states only the run time. -/
opaque reconciledMinute : Nat → Nat → Nat

/-- FREE VALUE (log 36): what a STORE writes for a dusk entry that is absent (R135, R137). The rules give none. -/
opaque absentDusk : Nat → BitVec 16

end Sys2Proof.Config
end

