-- ==== Sys2Proof/Machine/State.lean ====
section
/-! DEFINITION. The state of one station: everything the manual gives its ten blocks, its station block, its input lines and
its configuration memory, and the queue of commands that are waiting. Plain data throughout. -/

namespace Sys2Proof.Machine

/-! ## Times -/

/-- Run time (R1): second count and cycle count. -/
structure RunTime where
  sec : Nat
  cyc : Nat
deriving DecidableEq, Repr

/-- A tower or civil time without its fraction (R2): day number and microseconds of day. -/
structure TowerTime where
  day : Nat
  us : Nat
deriving DecidableEq, Repr

/-- A capture (R16): tower time with its fraction, and run time, of one crystal cycle. -/
structure Capture where
  day : Nat
  us : Nat
  frac : Nat
  run : RunTime
deriving DecidableEq, Repr

/-- What a civil minute event carries (R14). -/
structure MinuteEvent where
  civilDay : Nat
  civilMinute : Nat
  towerDay : Nat
  towerMinute : Nat
deriving DecidableEq, Repr

/-- What a civil quarter event carries (R14). -/
structure QuarterEvent where
  quarter : Nat
  civilHour : Nat
  towerDay : Nat
  towerMinute : Nat
deriving DecidableEq, Repr

/-- What a civil hour event carries (R14). -/
structure HourEvent where
  civilHour : Nat
  civilDay : Nat
  towerDay : Nat
  towerMinute : Nat
deriving DecidableEq, Repr

/-- The time base (R1 to R20). The `...Due` fields hold the boundary events raised and not yet taken (log 4). -/
structure TimeBase where
  run : RunTime
  day : Nat
  us : Nat
  frac : Nat
  rate : Int
  rho : Int
  slew : Int
  q : Int
  r : Nat
  offset : Nat
  valid : Bool
  backupCyc : Nat
  lastGain : Nat
  secondDue : Bool
  backupDue : Bool
  towerSecondDue : Option TowerTime
  dialDue : Option Nat
  minuteDue : Option MinuteEvent
  quarterDue : Option QuarterEvent
  hourDue : Option HourEvent
deriving DecidableEq, Repr

/-! ## Agreement unit -/

/-- A present peer table entry (R24). -/
structure Peer where
  stratum : Nat
  followed : Option Nat
  valid : Bool
  locked : Bool
  stepped : Bool
  markRun : RunTime
  theta : Int
deriving DecidableEq, Repr

/-- The source named in the previous-mark record (R33). -/
inductive Source where
  | station (n : Nat)
  | reference
deriving DecidableEq, Repr

/-- The previous-mark record (R33). -/
structure PrevMark where
  source : Source
  run : RunTime
  tau : Option Nat
deriving DecidableEq, Repr

/-- The reference state (R38). -/
inductive RefState where
  | absent
  | searching
  | locked
deriving DecidableEq, Repr

/-- A valid minute: its reference time and the run time of its pulse (R37, R38). -/
structure RefMinute where
  day : Nat
  minute : Nat
  run : RunTime
deriving DecidableEq, Repr

/-- A pending reference message and the run time at which it ended (R36). -/
structure RefMessage where
  day : Nat
  minute : Nat
  ended : RunTime
deriving DecidableEq, Repr

/-- An armed mark moment, in tower time or, while the time is unset, in run time (R21). -/
inductive MarkMoment where
  | tower (t : TowerTime)
  | run (t : RunTime)
deriving DecidableEq, Repr

/-- The agreement unit (R21 to R43). -/
structure Agreement where
  peers : List (Option Peer)
  followed : Option Nat
  prevMark : Option PrevMark
  rateRem : Int
  refState : RefState
  candidate : Option RefMinute
  lastMinute : Option RefMinute
  message : Option RefMessage
  stepped : Bool
  steppedInAttempt : Bool
  armed : Option MarkMoment
deriving DecidableEq, Repr

/-! ## Performances and their keys -/

/-- The class of a performance (R84). -/
inductive PerfClass where
  | hour
  | toll
  | quarter
  | tune
deriving DecidableEq, Repr

/-- A performance key (R84). -/
structure Key where
  cls : PerfClass
  number : Nat
  quarter : Nat
  day : Nat
  minute : Nat
deriving DecidableEq, Repr

/-! ## Bus controller -/

/-- The fields of a MARK, filled at the start bit (R22). -/
structure MarkFields where
  day : Nat
  us : Nat
  stratum : Nat
  followed : Option Nat
  valid : Bool
  stepped : Bool
  locked : Bool
deriving DecidableEq, Repr

/-- What a HALT carries (R108). -/
inductive HaltScope where
  | key (k : Key)
  | silence
  | resume
deriving DecidableEq, Repr

/-- Why an own DRAW was queued (R166, R170): `serves` says that a renewal of its id fell due while the increase stood in the
queue, which then serves for it; `freed` is a frame in flight whose consumer has given the draw up (R168). -/
inductive DrawPurpose where
  | new
  | increase (serves : Bool)
  | renewal
  | decrease
  | freed
deriving DecidableEq, Repr

/-- The outcomes of requests (11.3). -/
inductive ReqOutcome where
  | done
  | busy
  | range
  | state
  | full
  | unknown
deriving DecidableEq, Repr

/-- A frame of this station. A MARK's fields are empty until a start bit fills them; an ANSWER is marked when its report
makes the restart of a RESTART request (R183). -/
inductive Frame where
  | mark (fields : Option MarkFields)
  | cue (key : Key) (startOffset beat length : Nat)
  | halt (scope : HaltScope)
  | draw (id amount hold : Nat) (purpose : DrawPurpose)
  | free (id : Nat)
  | answer (asker seq code : Nat) (outcome : ReqOutcome) (data : List Byte) (restarts : Bool)
deriving DecidableEq, Repr

/-- An occupied slot of the transmit queue (R57). No two slots share an age. -/
structure QueueSlot where
  frame : Frame
  age : Nat
  errors : Nat
  unheard : Nat
deriving DecidableEq, Repr

/-- The station's part in the frame on the line: sending the slot of that age, or taking the frame as a receiver (R49). -/
inductive Role where
  | sending (age : Nat)
  | receiving
deriving DecidableEq, Repr

/-- The frame in progress with its start-bit capture (R48). -/
structure FrameInProgress where
  capture : Capture
  role : Role
deriving DecidableEq, Repr

/-- The bus states (R54). -/
inductive BusState where
  | active
  | guarded
  | mute
  | duplicate
deriving DecidableEq, Repr

/-- What the line must still show before it is idle for this station (R45). -/
inductive LineWait where
  | joining
  | afterFrame
  | gaveUp
deriving DecidableEq, Repr

/-- What the station last drove on the line (R46, R50, R52, R56). -/
inductive LineDrive where
  | released
  | frame (bits : List Bool)
  | heardSlot
  | brk
deriving DecidableEq, Repr

/-- The bus controller (R44 to R63). -/
structure Bus where
  send : Nat
  hear : Nat
  state : BusState
  spans : Nat
  spanBits : Nat
  queue : List QueueSlot
  heldMark : Bool
  nextAge : Nat
  current : Option FrameInProgress
  wait : LineWait
  guardedWait : Bool
  drive : LineDrive
deriving DecidableEq, Repr

/-! ## Strike unit -/

/-- Late classes of strike entries (R66). -/
inductive LateClass where
  | hour
  | toll
  | quarter
  | tune
  | panel
deriving DecidableEq, Repr

/-- Phrase marks (R66, R115). -/
inductive Phrase where
  | none
  | start
  | inside
  | ends
deriving DecidableEq, Repr

/-- Owner of a strike entry: a performance slot or PANEL (R66). -/
inductive Owner where
  | slot (n : Nat)
  | panel
deriving DecidableEq, Repr

/-- An entry of a strike queue (R66). -/
structure StrikeEntry where
  target : TowerTime
  owner : Owner
  velocity : Nat
  phrase : Phrase
  late : LateClass
deriving DecidableEq, Repr

/-- The states of a channel (R65); UNUSED is the state of a channel that names no bell. -/
inductive ChannelState where
  | ready
  | striking
  | settling
  | faulted
  | unused
deriving DecidableEq, Repr

/-- The holder of a bell (R67): a performance slot with its priority, or PANEL. -/
inductive Holder where
  | none
  | perf (slot priority : Nat)
  | panel
deriving DecidableEq, Repr

/-- The note in a waiting-note slot with its claimant (R67). -/
structure WaitingNote where
  note : StrikeEntry
  slot : Nat
  priority : Nat
deriving DecidableEq, Repr

/-- The live fields of a bell channel (R65, R75 to R77). -/
structure Channel where
  state : ChannelState
  lastLaunch : Option RunTime
  holder : Holder
  waiting : Option WaitingNote
  isProtected : Bool
  openPhrase : Bool
  queue : List StrikeEntry
  pulseEnd : Option RunTime
  pulseEnded : Option RunTime
  restTaken : Bool
  rested : Bool
  lostAt : Option RunTime
deriving DecidableEq, Repr

/-! ## Performance unit -/

/-- The states of a performance record (R85). -/
inductive PerfState where
  | waiting
  | cued
  | playing
  | ending
deriving DecidableEq, Repr

/-- A record's mark on one of the station's bells (R85); a claim remembers whether the bell was HELD before it (R100). -/
inductive BellMark where
  | none
  | held
  | claimed (wasHeld : Bool)
  | displaced
  | faulted
deriving DecidableEq, Repr

/-- Where a record came from (R85). -/
inductive Origin where
  | localCue
  | heard
deriving DecidableEq, Repr

/-- What became of a record's CUE frame (R85, R91). -/
inductive FrameState where
  | none
  | queued
  | heard
  | undelivered
deriving DecidableEq, Repr

/-- A performance record (R85). `marks` holds one mark for each bell channel; `beat` is the beat or the interval and
`length` the length or the count; `firstLaunched` is set once a first stroke has launched (R105). -/
structure Record where
  key : Key
  state : PerfState
  start : TowerTime
  ends : Option TowerTime
  beat : Nat
  length : Nat
  hasPart : Bool
  cursor : Nat
  nextTarget : TowerTime
  marks : List BellMark
  entriesOut : Nat
  origin : Origin
  frameState : FrameState
  deadline1 : Option RunTime
  deadline2 : Option RunTime
  firstLaunched : Bool
deriving DecidableEq, Repr

/-- The outcomes of the recent-key list (R87). -/
inductive KeyOutcome where
  | ended
  | aborted
  | haltedBeforeCue
deriving DecidableEq, Repr

/-- An entry of the recent-key list (R87). -/
structure RecentKey where
  key : Key
  outcome : KeyOutcome
  run : RunTime
deriving DecidableEq, Repr

/-- The performance unit (R84 to R114). -/
structure Performances where
  table : List (Option Record)
  recent : List RecentKey
  silenced : Bool
  lastHour : Option RunTime
  quarter : Option QuarterEvent
deriving DecidableEq, Repr

/-! ## Programme store -/

/-- The states of a directory entry (R115). -/
inductive TuneState where
  | opened
  | ready
  | incomplete
deriving DecidableEq, Repr

/-- A tune directory entry (R115). -/
structure Tune where
  number : Nat
  length : Nat
  beat : Nat
  own : Nat
  received : Nat
  first : Nat
  state : TuneState
deriving DecidableEq, Repr

/-- A note record (R115). -/
structure Note where
  offset : Nat
  bell : Nat
  velocity : Nat
  phrase : Phrase
deriving DecidableEq, Repr

/-- A day selector (R124); a weekday mask has bit 0 for Monday. -/
inductive Selector where
  | weekly (mask : Nat)
  | date (day : Nat)
  | season (mask fromDay toDay : Nat)
deriving DecidableEq, Repr

/-- When a LIGHT entry is due (R123). -/
inductive LightTime where
  | fixed (minute : Nat)
  | dusk (offset : Int)
deriving DecidableEq, Repr

/-- Kind, time and argument of a calendar entry (R123). -/
inductive CalendarWork where
  | quarters (tune1 tune2 tune3 tune4 fromHour toHour beat : Nat)
  | tune (minute tune beat : Nat)
  | toll (minute bell interval count : Nat)
  | light (time : LightTime) (scene : Nat)
  | silent (fromMinute toMinute : Nat)
  | offset (minute offset : Nat)
deriving DecidableEq, Repr

/-- A calendar entry without its last-fired records (R123). -/
structure CalendarEntry where
  selector : Selector
  work : CalendarWork
deriving DecidableEq, Repr

/-- A last-fired record (R123). -/
structure LastFired where
  run : RunTime
  minute : Nat
deriving DecidableEq, Repr

/-- A used calendar slot: four last-fired records for QUARTERS, one for every other kind (R123). -/
structure CalendarSlot where
  entry : CalendarEntry
  fired : List (Option LastFired)
deriving DecidableEq, Repr

/-- The open-tune state (R117). -/
structure OpenTune where
  tune : Nat
  lastOffset : Option Nat
  loss : Bool
deriving DecidableEq, Repr

/-- A STORE in flight and, when it named this station, whom and what to answer (R135, R185). -/
structure StoreInFlight where
  answerTo : Option (Nat × Nat)
deriving DecidableEq, Repr

/-- The staging record of calendar writes (R194). -/
structure Staging where
  asker : Nat
  slot : Nat
  bytes : List Byte
deriving DecidableEq, Repr

/-- The programme store (R115 to R138). A dusk table with an entry missing is absent (R137). -/
structure Programme where
  tunes : List (Option Tune)
  notes : List Note
  calendar : List (Option CalendarSlot)
  dusk : List (Option Nat)
  scenes : List (BitVec 32)
  opened : Option OpenTune
  scanMark : Option (Nat × Nat)
  storing : Option StoreInFlight
  staging : Option Staging
deriving DecidableEq, Repr

/-! ## Dial unit and light and supply unit -/

/-- A consumer's draw (R140, R156). -/
inductive DrawState where
  | none
  | pending
  | live
deriving DecidableEq, Repr

/-- The states of a dial (R140); UNUSED is the state of a dial that is not fitted. -/
inductive DialState where
  | idle
  | pulsing
  | catchingUp
  | waitingSupply
  | holding
  | seeking
  | faulted
  | unused
deriving DecidableEq, Repr

/-- Pulse polarity (R140). -/
inductive Polarity where
  | positive
  | negative
deriving DecidableEq, Repr

/-- The live fields of a dial (R140), with the sensor reading kept with the pulse (R143). -/
structure Dial where
  state : DialState
  position : Option Nat
  polarity : Polarity
  misses : Nat
  seeks : Nat
  lastBegin : Option RunTime
  pulseEnd : Option RunTime
  beganActive : Bool
  draw : DrawState
  renewalDue : Option RunTime
deriving DecidableEq, Repr

/-- The states of a circuit (R156); UNUSED is the state of a circuit that names no light. -/
inductive CircuitState where
  | off
  | waitingSupply
  | starting
  | on
  | faulted
  | unused
deriving DecidableEq, Repr

/-- The live fields of a circuit (R156). -/
structure Circuit where
  state : CircuitState
  closed : Bool
  wanted : Bool
  startEnd : Option RunTime
  checkDue : Option RunTime
  draw : DrawState
  renewalDue : Option RunTime
deriving DecidableEq, Repr

/-- An entry of the draw list (R163); a HEARD entry expires its hold after its announcement. -/
structure DrawEntry where
  station : Nat
  id : Nat
  amount : Nat
  own : Bool
  hold : Nat
  announced : Option RunTime
deriving DecidableEq, Repr

/-- An item of the pending list (R166); `told` says that its BUDGET_WAIT_LONG has been set (R172). -/
structure PendingDraw where
  id : Nat
  amount : Nat
  hold : Nat
  increase : Bool
  queued : Bool
  requested : RunTime
  told : Bool
deriving DecidableEq, Repr

/-- A FREE that could not be queued (R171). -/
structure PendingFree where
  id : Nat
  announced : Option RunTime
deriving DecidableEq, Repr

/-- The light and supply unit (R155 to R174). The quiet-period end is held until it is taken (R167). -/
structure Supply where
  circuits : List Circuit
  scene : Nat
  override : Bool
  draws : List DrawEntry
  waiting : List PendingDraw
  frees : List PendingFree
  quietEnd : Option RunTime
  incomplete : Bool
  lastOverflow : Option RunTime
deriving DecidableEq, Repr

/-! ## Station block, start-up sequencer, panel service, input lines -/

/-- Configured fields of a bell channel (R64); pulse widths of velocities 1 to 4. -/
structure ChannelConfig where
  bell : Option Nat
  lead : Nat
  width1 : Nat
  width2 : Nat
  width3 : Nat
  width4 : Nat
  interval : Nat
deriving DecidableEq, Repr

/-- Configured fields of a dial (R139). -/
structure DialConfig where
  used : Bool
  width : Nat
  interval : Nat
  current : Nat
deriving DecidableEq, Repr

/-- Configured fields of a circuit (R155). -/
structure CircuitConfig where
  light : Option Nat
  inrush : Nat
  hold : Nat
  steady : Nat
  feedback : Bool
deriving DecidableEq, Repr

/-- The station block in force (R179). -/
structure StationBlock where
  number : Nat
  bitRate : Nat
  markPeriod : Nat
  reference : Bool
  cueCapable : Bool
  hammerSlots : Nat
  cueLead : Nat
  hourBell : Option Nat
  hourInterval : Nat
  velocity : Nat
  channels : List ChannelConfig
  dials : List DialConfig
  circuits : List CircuitConfig
  budget : Nat
deriving DecidableEq, Repr

/-- The station run states (R175). -/
inductive RunState where
  | supplyWait
  | checking
  | loading
  | unconfigured
  | listening
  | running
deriving DecidableEq, Repr

/-- The kinds of start decided at a start moment (R176). -/
inductive StartKind where
  | cold
  | restore
  | warm
deriving DecidableEq, Repr

/-- The start-up sequencer (R175 to R184) with the lines it watches; `supplyFell` says that supply-good has fallen since
the station last left SUPPLY_WAIT, or that it never left it (R176). -/
structure Sequencer where
  state : RunState
  supplyGood : Bool
  resetAsserted : Bool
  supplyFell : Bool
  backupValid : Bool
  timeout : Option RunTime
  kind : StartKind
deriving DecidableEq, Repr

/-- The panel service (R185 to R191): anomaly summary with the flag of row k in bit k (R195), 13 counters in the order of
R190, and whether a RESTART's ANSWER has been reported and its restart is due (R183). -/
structure Panel where
  summary : BitVec 24
  counters : List Nat
  restartDue : Bool
deriving DecidableEq, Repr

/-- One filtered input line: the level taken and the cycles a different level has lasted (R76). -/
structure FilteredLine where
  level : Bool
  lasted : Nat
deriving DecidableEq, Repr

/-- The input lines (11.6). -/
structure Lines where
  rest : List FilteredLine
  twelve : List FilteredLine
  feedback : List FilteredLine
  backup : Bool
deriving DecidableEq, Repr

/-- The station: every block but the configuration memory. -/
structure Station where
  tb : TimeBase
  ag : Agreement
  bus : Bus
  channels : List Channel
  pf : Performances
  pg : Programme
  dials : List Dial
  sup : Supply
  seq : Sequencer
  panel : Panel
  cfg : StationBlock
  lines : Lines
deriving DecidableEq, Repr

/-- The whole state: the commands waiting, first in first out, the configuration memory, and the station. -/
structure State where
  pending : List Instr
  mem : List Host.Cell
  st : Station
deriving DecidableEq, Repr

/-- Why a command stops the machine. -/
inductive Fault where
  /-- Raised by LOADING_END alone, when its operand rewrites a byte outside the configuration memory of 11.4. Safe: the
  manual gives the memory no such byte, and nothing of the state is changed. -/
  | noSuchMemoryByte (address : Nat)
deriving DecidableEq, Repr

/-- Why a command has no meaning in the model. -/
inductive Refusal where
  /-- Raised by no command: every row of the table has its meaning. Safe. -/
  | notModelled (mnemonic : String)
deriving DecidableEq, Repr

/-! ## Reset -/

/-- The time base of the COLD column of R19. -/
def TimeBase.cold : TimeBase :=
  { run := ⟨0, 0⟩, day := 0, us := 0, frac := 0, rate := 0, rho := 0, slew := 0, q := 0, r := 0, offset := 0,
    valid := false, backupCyc := 0, lastGain := 0, secondDue := false, backupDue := false, towerSecondDue := none,
    dialDue := none, minuteDue := none, quarterDue := none, hourDue := none }

/-- The agreement unit of the COLD column of R43, before a station block says whether a receiver is fitted. -/
def Agreement.cold : Agreement :=
  { peers := List.replicate 15 none, followed := none, prevMark := none, rateRem := 0, refState := .absent,
    candidate := none, lastMinute := none, message := none, stepped := false, steppedInAttempt := false, armed := none }

/-- The bus controller of the COLD column of R63. -/
def Bus.cold : Bus :=
  { send := 0, hear := 0, state := .active, spans := 0, spanBits := 0, queue := [], heldMark := false, nextAge := 0,
    current := none, wait := .joining, guardedWait := false, drive := .released }

/-- An unused channel (R65). -/
def Channel.cold : Channel :=
  { state := .unused, lastLaunch := none, holder := .none, waiting := none, isProtected := false, openPhrase := false,
    queue := [], pulseEnd := none, pulseEnded := none, restTaken := false, rested := false, lostAt := none }

/-- The performance unit of the COLD column of R114. -/
def Performances.cold : Performances :=
  { table := List.replicate 6 none, recent := [], silenced := false, lastHour := none, quarter := none }

/-- The programme store with every table empty (R137). -/
def Programme.cold : Programme :=
  { tunes := List.replicate 64 none, notes := [], calendar := List.replicate 96 none, dusk := List.replicate 46 none,
    scenes := List.replicate 16 0, opened := none, scanMark := none, storing := none, staging := none }

/-- An unused dial at an unknown position (R154, COLD). -/
def Dial.cold : Dial :=
  { state := .unused, position := none, polarity := .positive, misses := 0, seeks := 0, lastBegin := none,
    pulseEnd := none, beganActive := false, draw := .none, renewalDue := none }

/-- An unused circuit (R173, COLD). -/
def Circuit.cold : Circuit :=
  { state := .unused, closed := false, wanted := false, startEnd := none, checkDue := none, draw := .none,
    renewalDue := none }

/-- The light and supply unit of the COLD column of R173. -/
def Supply.cold : Supply :=
  { circuits := List.replicate 6 Circuit.cold, scene := 0, override := false, draws := [], waiting := [], frees := [],
    quietEnd := none, incomplete := false, lastOverflow := none }

/-- A station block with nothing fitted, before one has been read: every number is the smallest of its range but the cue lead,
which is the default of R88 (log 6). -/
def StationBlock.cold : StationBlock :=
  { number := 0, bitRate := 10, markPeriod := 8, reference := false, cueCapable := false, hammerSlots := 1,
    cueLead := 1500, hourBell := none, hourInterval := 1500, velocity := 1,
    channels := List.replicate 8
      { bell := none, lead := 10, width1 := 10, width2 := 10, width3 := 10, width4 := 10, interval := 100 },
    dials := List.replicate 4 { used := false, width := 100, interval := 1, current := 1 },
    circuits := List.replicate 6 { light := none, inrush := 1, hold := 1, steady := 1, feedback := false },
    budget := 1 }

/-- The panel service with the summary clear and the counters 0 (R189, R190). -/
def Panel.cold : Panel := { summary := 0, counters := List.replicate 13 0, restartDue := false }

/-- The input lines before any cycle (log 6). -/
def Lines.cold : Lines :=
  { rest := List.replicate 8 ⟨false, 0⟩, twelve := List.replicate 4 ⟨false, 0⟩,
    feedback := List.replicate 6 ⟨false, 0⟩, backup := false }

/-- A station to which supply has never been applied (R176). -/
def Station.cold : Station :=
  { tb := TimeBase.cold, ag := Agreement.cold, bus := Bus.cold, channels := List.replicate 8 Channel.cold,
    pf := Performances.cold, pg := Programme.cold, dials := List.replicate 4 Dial.cold, sup := Supply.cold,
    seq := { state := .supplyWait, supplyGood := false, resetAsserted := false, supplyFell := true,
             backupValid := false, timeout := none, kind := .cold },
    panel := Panel.cold, cfg := StationBlock.cold, lines := Lines.cold }

/-- The machine after reset: no supply yet, no command waiting, nothing listed in the configuration memory (log 5). -/
def State.reset : State := { pending := [], mem := [], st := Station.cold }

end Sys2Proof.Machine
end

