-- ==== Sys2Proof/Machine/Operands.lean ====
section
/-! DEFINITION. Numbers, bytes, times and dates: the arithmetic that every rule uses. -/

namespace Sys2Proof.Machine

/-! ## Numbers and bytes (5.1, 11) -/

/-- A value outside its range is replaced by the nearest end of the range (5.1). -/
def clamp (lo hi x : Nat) : Nat := max lo (min hi x)

/-- Clamping of signed values (5.1). -/
def clampInt (lo hi x : Int) : Int := max lo (min hi x)

/-- Byte `i` of a payload, 0 beyond its end. -/
def byteAt (bs : List Byte) (i : Nat) : Nat := (bs.getD i 0).toNat

/-- Two bytes, high byte first. -/
def word16 (bs : List Byte) (i : Nat) : Nat := byteAt bs i * 256 + byteAt bs (i + 1)

/-- Five bytes, high byte first. -/
def word40 (bs : List Byte) (i : Nat) : Nat := (word16 bs i * 65536 + word16 bs (i + 2)) * 256 + byteAt bs (i + 4)

/-- `k` bytes of a number, high byte first; higher bytes are left out. -/
def bytesOf : Nat → Nat → List Byte
  | 0, _ => []
  | k + 1, n => BitVec.ofNat 8 (n / 256 ^ k) :: bytesOf k n

/-- A byte read as a signed number. -/
def signed8 (n : Nat) : Int := if n < 128 then (n : Int) else (n : Int) - 256

/-- `k` bytes of a signed number, high byte first (11.3). -/
def signedBytes (k : Nat) (x : Int) : List Byte := bytesOf k (x % ((256 ^ k : Nat) : Int)).toNat

/-- One byte of a flag. -/
def flagByte (b : Bool) : Byte := if b then 1 else 0

/-- Bit `i` of a number. -/
def bitOf (n i : Nat) : Bool := n / 2 ^ i % 2 = 1

/-- The highest `k` bits of a `k`-bit number first, true = 1. -/
def bitsOf : Nat → Nat → List Bool
  | 0, _ => []
  | k + 1, n => bitOf n k :: bitsOf k n

/-- The number that bits spell, highest first. -/
def numberOf (bits : List Bool) : Nat := bits.foldl (fun n b => 2 * n + b.toNat) 0

/-! ## Run time (R1) -/

/-- Cycles of the whole run-time span (R1). -/
def runSpan : Nat := Config.secondSpan * Config.cyclesPerSecond

/-- Run time as a number of cycles. -/
def RunTime.cycles (t : RunTime) : Nat := t.sec * Config.cyclesPerSecond + t.cyc

/-- The run time of a number of cycles. -/
def RunTime.ofCycles (n : Nat) : RunTime :=
  { sec := n / Config.cyclesPerSecond % Config.secondSpan, cyc := n % Config.cyclesPerSecond }

/-- Run time `n` cycles later. -/
def RunTime.plus (t : RunTime) (n : Nat) : RunTime := RunTime.ofCycles (t.cycles + n)

/-- Cycles from `t` to `now`, modulo the whole span (R1). -/
def RunTime.elapsed (t now : RunTime) : Nat := (now.cycles + runSpan - t.cycles % runSpan) % runSpan

/-- Run time has reached the deadline `d`: deadlines lie less than half the span ahead (R1). -/
def RunTime.reached (d now : RunTime) : Bool := d.elapsed now < runSpan / 2

/-- A number of seconds in cycles. -/
def secCycles (s : Nat) : Nat := s * Config.cyclesPerSecond

/-- A number of milliseconds in cycles, up to the first whole cycle at or after it (log 29). -/
def msCycles (ms : Nat) : Nat := (ms * Config.cyclesPerSecond + 999) / 1000

/-- At least `ms` milliseconds of run time lie between `t` and `now`. -/
def RunTime.lasted (t now : RunTime) (ms : Nat) : Bool := ms * Config.cyclesPerSecond ≤ t.elapsed now * 1000

/-- More than `ms` milliseconds of run time lie between `t` and `now`. -/
def RunTime.exceeds (t now : RunTime) (ms : Nat) : Bool := ms * Config.cyclesPerSecond < t.elapsed now * 1000

/-- One crystal cycle of run time (R1). -/
def RunTime.tick (t : RunTime) : RunTime :=
  if t.cyc + 1 < Config.cyclesPerSecond then { t with cyc := t.cyc + 1 }
  else { sec := if t.sec + 1 < Config.secondSpan then t.sec + 1 else 0, cyc := 0 }

/-! ## Tower and civil time (R2, R3, R12) -/

/-- A day difference brought into -32,768..32,767 (R3). -/
def dayDiff (a b : Nat) : Int := ((a : Int) - (b : Int) + 32768) % 65536 - 32768

/-- The signed difference of two tower times in microseconds (R3). -/
def TowerTime.diff (a b : TowerTime) : Int :=
  dayDiff a.day b.day * (Config.usPerDay : Int) + ((a.us : Int) - (b.us : Int))

/-- A tower time `d` microseconds later, with the carries of R2. -/
def TowerTime.plus (t : TowerTime) (d : Int) : TowerTime :=
  let total := (t.us : Int) + d
  { day := (((t.day : Int) + total / (Config.usPerDay : Int)) % (Config.daySpan : Int)).toNat
    us := (total % (Config.usPerDay : Int)).toNat }

/-- `a` is at or after `b` (R3). -/
def TowerTime.atOrAfter (a b : TowerTime) : Bool := decide (0 ≤ a.diff b)

/-- The tower time of a day and a minute of day. -/
def TowerTime.ofMinute (day minute : Nat) : TowerTime := { day := day, us := minute * 60000000 }

/-- The tower time of the time base, its fraction dropped (R2). -/
def TimeBase.now (tb : TimeBase) : TowerTime := { day := tb.day, us := tb.us }

/-- A tower time under a civil offset of so many minutes (R12). -/
def TowerTime.civil (t : TowerTime) (offset : Nat) : TowerTime :=
  let sum := t.us + offset * 60000000
  if Config.usPerDay ≤ sum then
    { day := if t.day + 1 < Config.daySpan then t.day + 1 else 0, us := sum - Config.usPerDay }
  else { day := t.day, us := sum }

/-- Present civil time (R12). -/
def TimeBase.civil (tb : TimeBase) : TowerTime := tb.now.civil tb.offset

/-- Minute of day (R12). -/
def TowerTime.minute (t : TowerTime) : Nat := t.us / 60000000

/-- Seconds of day (R12). -/
def TowerTime.second (t : TowerTime) : Nat := t.us / 1000000

/-- The capture of the present tower time and run time (R16). -/
def TimeBase.capture (tb : TimeBase) : Capture := { day := tb.day, us := tb.us, frac := tb.frac, run := tb.run }

/-- The tower time of a capture, its fraction dropped (R16). -/
def Capture.time (c : Capture) : TowerTime := { day := c.day, us := c.us }

/-! ## Dates (R13) -/

/-- Weekday of a day number, 0 = Monday (R13). -/
def weekday (n : Nat) : Nat := (n + 5) % 7

/-- Position in the 1,461-day cycle (R13). -/
def cyclePosition (n : Nat) : Nat := n % 1461

/-- Year of a day number (R13). -/
def yearOf (n : Nat) : Nat :=
  2000 + 4 * (n / 1461) + (if cyclePosition n < 366 then 0 else 1 + (cyclePosition n - 366) / 365)

/-- Day of year of a day number (R13). -/
def dayOfYear (n : Nat) : Nat :=
  if cyclePosition n < 366 then cyclePosition n else (cyclePosition n - 366) % 365

/-- The day number before `n` (R2). -/
def dayBefore (n : Nat) : Nat := if n = 0 then Config.daySpan - 1 else n - 1

/-- The day number `k` days before `n` (R2). -/
def daysBefore (n k : Nat) : Nat := (n + Config.daySpan - k % Config.daySpan) % Config.daySpan

/-! ## Keys (R84, 11.2, R193) -/

/-- Class code of a key (11.2). -/
def PerfClass.code : PerfClass → Nat
  | .hour => 0
  | .toll => 1
  | .quarter => 2
  | .tune => 3

/-- The class of a 2-bit code (11.2). -/
def PerfClass.ofCode (n : Nat) : PerfClass :=
  if n = 0 then .hour else if n = 1 then .toll else if n = 2 then .quarter else .tune

/-- Priority in the holder contest (R84). -/
def PerfClass.priority (c : PerfClass) : Nat := c.code

/-- Late class of the entries a performance feeds (R84). -/
def PerfClass.late : PerfClass → LateClass
  | .hour => .hour
  | .toll => .toll
  | .quarter => .quarter
  | .tune => .tune

/-- The six bytes of a key with a scope in its low bits (11.2). -/
def Key.bytes (k : Key) (scope : Nat) : List Byte :=
  BitVec.ofNat 8 (k.cls.code * 64 + k.quarter * 8 + scope) :: BitVec.ofNat 8 k.number ::
    (bytesOf 2 k.day ++ bytesOf 2 k.minute)

/-- The key that six bytes from `i` on spell (11.2); bit 2 of the first byte is ignored (R193). -/
def keyAt (bs : List Byte) (i : Nat) : Key :=
  { cls := PerfClass.ofCode (byteAt bs i / 64), quarter := byteAt bs i / 8 % 8, number := byteAt bs (i + 1),
    day := word16 bs (i + 2), minute := word16 bs (i + 4) }

/-- The quarter a class allows (R84, R193). -/
def Key.quarterValid (k : Key) : Bool :=
  match k.cls with
  | .quarter => decide (1 ≤ k.quarter) && decide (k.quarter ≤ 4)
  | _ => decide (k.quarter = 0)

/-- The number a class allows (R84). -/
def Key.numberValid (k : Key) : Bool :=
  match k.cls with
  | .hour => decide (k.number = 0)
  | .toll => decide (1 ≤ k.number) && decide (k.number ≤ 64)
  | .quarter | .tune => decide (1 ≤ k.number) && decide (k.number ≤ 250)

/-- Number, quarter and minute in range (R84, R111). -/
def Key.valid (k : Key) : Bool := k.numberValid && k.quarterValid && decide (k.minute < 1440)

/-! ## Request outcomes (11.3) -/

/-- Outcome codes (11.3). -/
def ReqOutcome.code : ReqOutcome → Nat
  | .done => 0
  | .busy => 1
  | .range => 2
  | .state => 3
  | .full => 4
  | .unknown => 5

end Sys2Proof.Machine
end

