-- ==== Sys2Proof/Machine/Flags.lean ====
section
/-! DEFINITION. What the panel service owns: the anomaly summary (R189), the counters (R190) and the alarm line (R191), and
the values derived from the state that many rules read: stratum (R26) and hammer slots in use (R74). -/

namespace Sys2Proof.Machine

/-- The 17 flags of the anomaly summary, in the order of the table of R189. -/
inductive Anomaly where
  | timeStep
  | rateLimit
  | refLost
  | holdover
  | lateDrop
  | hammerFault
  | tableFull
  | dialSlip
  | dialSensorFault
  | budgetWaitLong
  | budgetUnannounced
  | viewIncomplete
  | busGuarded
  | busMute
  | duplicateStation
  | progInvalid
  | storeFail
deriving DecidableEq, Repr

/-- The row of a flag in the table of R189, counted from 0, which is its bit (R195). -/
def Anomaly.bit : Anomaly → Nat
  | .timeStep => 0
  | .rateLimit => 1
  | .refLost => 2
  | .holdover => 3
  | .lateDrop => 4
  | .hammerFault => 5
  | .tableFull => 6
  | .dialSlip => 7
  | .dialSensorFault => 8
  | .budgetWaitLong => 9
  | .budgetUnannounced => 10
  | .viewIncomplete => 11
  | .busGuarded => 12
  | .busMute => 13
  | .duplicateStation => 14
  | .progInvalid => 15
  | .storeFail => 16

/-- A flag of the summary. -/
def Panel.flag (p : Panel) (a : Anomaly) : Bool := p.summary.getLsbD a.bit

/-- Set a flag; it stays set (R189). -/
def Panel.raise (p : Panel) (a : Anomaly) : Panel :=
  { p with summary := p.summary ||| BitVec.ofNat 24 (2 ^ a.bit) }

/-- Set a flag of the station's summary. -/
def Station.raise (s : Station) (a : Anomaly) : Station := { s with panel := s.panel.raise a }

/-- The 13 counters, in the order of R190. -/
inductive Counter where
  | lateDrops
  | yields
  | queueFullSkips
  | duplicateCues
  | unheardDrops
  | errorDrops
  | steps
  | skippedEntries
  | foreignNotes
  | suppressedHours
  | ignoredCues
  | stepAborts
  | loadRefusals
deriving DecidableEq, Repr

/-- Index of a counter (R190). -/
def Counter.index : Counter → Nat
  | .lateDrops => 0
  | .yields => 1
  | .queueFullSkips => 2
  | .duplicateCues => 3
  | .unheardDrops => 4
  | .errorDrops => 5
  | .steps => 6
  | .skippedEntries => 7
  | .foreignNotes => 8
  | .suppressedHours => 9
  | .ignoredCues => 10
  | .stepAborts => 11
  | .loadRefusals => 12

/-- A counter's value. -/
def Panel.count (p : Panel) (c : Counter) : Nat := p.counters.getD c.index 0

/-- One increase of a 16-bit counter, which stays at 65,535 (R190). -/
def saturate (n : Nat) : Nat := if n < 65535 then n + 1 else 65535

/-- Increase a counter by one (R190). -/
def Panel.bump (p : Panel) (c : Counter) : Panel :=
  { p with counters := p.counters.set c.index (saturate (p.count c)) }

/-- Increase a counter of the station by one. -/
def Station.bump (s : Station) (c : Counter) : Station := { s with panel := s.panel.bump c }

/-- Increase a counter by `n`. -/
def Station.bumpBy (s : Station) (c : Counter) : Nat → Station
  | 0 => s
  | n + 1 => (s.bump c).bumpBy c n

/-- The station's stratum (R26). -/
def Station.stratum (s : Station) : Nat :=
  if s.ag.refState = .locked then 0
  else if s.tb.valid = false then 7
  else match s.ag.followed with
    | none => 6
    | some n => match s.ag.peers.getD n none with
      | none => 6
      | some p => min 6 (p.stratum + 1)

/-- The hammer slots in use: one for each channel whose pulse lasts (R74). -/
def Station.slotsInUse (s : Station) : Nat := s.channels.countP fun c => decide (c.state = .striking)

/-- The alarm output (R191). -/
def Station.alarm (s : Station) : Bool :=
  match s.seq.state with
  | .unconfigured => true
  | .listening => decide (s.bus.state = .duplicate)
  | .running =>
      s.channels.any (fun c => decide (c.state = .faulted)) || s.dials.any (fun d => decide (d.state = .faulted))
        || s.sup.circuits.any (fun c => decide (c.state = .faulted)) || decide (s.bus.state = .mute)
        || decide (s.bus.state = .duplicate) || !s.tb.valid
  | .supplyWait | .checking | .loading => false

/-- The station run state is RUNNING (R175). -/
def Station.running (s : Station) : Bool := decide (s.seq.state = .running)

/-- The station run state is LISTENING (R175). -/
def Station.listening (s : Station) : Bool := decide (s.seq.state = .listening)

/-- The run states in which the blocks are in service (R175). -/
def Station.inService (s : Station) : Bool := s.running || s.listening

end Sys2Proof.Machine
end

