-- ==== Sys2Proof/Machine/Line.lean ====
section
/-! DEFINITION. Frames on the line: arbitration words and payloads (11.1, 11.2), the check word (R192), the bits a sender
drives (R46), and what a receiver makes of the bits it reads (R47, R51). A bit is true when it is recessive. -/

namespace Sys2Proof.Machine

/-! ## Words and payloads -/

/-- Arbitration word of an own frame of station `s` (11.1). -/
def Frame.word (s : Nat) : Frame → Nat
  | .halt _ => 16 + s
  | .cue _ _ _ _ => 256 + 32 + s
  | .free _ => 256 + 64 + s
  | .draw _ _ _ _ => 256 + 80 + s
  | .mark _ => 512 + 48 + s
  | .answer _ _ _ _ _ _ => 768 + 112 + s

/-- Payload of a MARK (11.2). -/
def MarkFields.bytes (m : MarkFields) : List Byte :=
  bytesOf 2 m.day ++ bytesOf 5 m.us ++
    [BitVec.ofNat 8 (m.stratum * 32 + m.valid.toNat * 16 + m.stepped.toNat * 8 + m.locked.toNat * 4),
     BitVec.ofNat 8 (m.followed.getD 15)]

/-- The fields a MARK payload spells (11.2); a followed station above 14 is none (log 22). -/
def markFieldsOf (p : List Byte) : MarkFields :=
  { day := word16 p 0, us := word40 p 2, stratum := byteAt p 7 / 32, valid := bitOf (byteAt p 7) 4,
    stepped := bitOf (byteAt p 7) 3, locked := bitOf (byteAt p 7) 2,
    followed := if byteAt p 8 < 15 then some (byteAt p 8) else none }

/-- Payload of a HALT (11.2): for SILENCE and RESUME the key bytes are zero. -/
def HaltScope.bytes : HaltScope → List Byte
  | .key k => k.bytes 0
  | .silence => 1 :: List.replicate 5 0
  | .resume => 2 :: List.replicate 5 0

/-- Payload of a frame (11.2); a MARK whose fields no start bit has filled has none. -/
def Frame.payload : Frame → List Byte
  | .mark none => []
  | .mark (some m) => m.bytes
  | .cue k off beat len => k.bytes 0 ++ bytesOf 2 off ++ bytesOf 2 beat ++ bytesOf 2 len
  | .halt sc => sc.bytes
  | .draw id amount hold _ => [BitVec.ofNat 8 id, BitVec.ofNat 8 amount, BitVec.ofNat 8 hold]
  | .free id => [BitVec.ofNat 8 id]
  | .answer asker seq code outcome data _ =>
      [BitVec.ofNat 8 asker, BitVec.ofNat 8 seq, BitVec.ofNat 8 code, BitVec.ofNat 8 outcome.code] ++ data

/-! ## The check word (R192) -/

/-- One bit into the register with generator x^16 + x^12 + x^5 + 1 (R192). -/
def crcBit (reg : BitVec 16) (b : Bool) : BitVec 16 :=
  if (reg.msb ^^ b) then (reg <<< 1) ^^^ 0x1021#16 else reg <<< 1

/-- The register after a run of bits, from all ones (R192). -/
def crcBits (bits : List Bool) : BitVec 16 := bits.foldl crcBit 0xFFFF#16

/-- The bits of bytes, bit 7 first. -/
def byteBits (bs : List Byte) : List Bool := bs.flatMap fun b => bitsOf 8 b.toNat

/-- The check word of a stored block, its bytes in address order (R192). -/
def blockCheck (bs : List Byte) : Nat := (crcBits (byteBits bs)).toNat

/-- The bits a frame's check word covers: arbitration word, length, payload (R192). -/
def coveredBits (word : Nat) (payload : List Byte) : List Bool :=
  bitsOf 10 word ++ bitsOf 4 payload.length ++ byteBits payload

/-- A frame's check word (R192). -/
def frameCheck (word : Nat) (payload : List Byte) : Nat := (crcBits (coveredBits word payload)).toNat

/-! ## The bits a sender drives (R46, 11.1) -/

/-- A group of bits and its sync bit, the opposite of the group's last bit (R46). -/
def synced (group : List Bool) : List Bool := group ++ [!(group.getLastD true)]

/-- The bits of a frame after its start bit, the heard slot left recessive by its sender (R46, R50). -/
def frameBits (word : Nat) (payload : List Byte) : List Bool :=
  synced (bitsOf 5 (word / 32)) ++ synced (bitsOf 5 (word % 32)) ++ synced (bitsOf 4 payload.length)
    ++ payload.flatMap (fun b => synced (bitsOf 8 b.toNat))
    ++ synced (bitsOf 8 (frameCheck word payload / 256)) ++ synced (bitsOf 8 (frameCheck word payload % 256))
    ++ List.replicate 9 true

/-! ## The receiver (R47, R51) -/

/-- What a receiver makes of a frame: good with its word and payload, a FORM or CHECK error recorded, or a break, for which
no error is recorded. -/
inductive Verdict where
  | good (word : Nat) (payload : List Byte)
  | form
  | check
  | brk
deriving DecidableEq, Repr

/-- Where in the frame the next bit lies. -/
inductive RxPhase where
  | data
  | sync
  | delimiter
  | heard
  | ending (left : Nat)
deriving DecidableEq, Repr

/-- A receiver following a frame: the data bits read so far, latest first, the bit before, and the dominant run. `stopped`
says that the 10th dominant bit in a row has been read (R51). -/
structure Receiver where
  phase : RxPhase
  data : List Bool
  prev : Bool
  run : Nat
  stopped : Bool
deriving DecidableEq, Repr

/-- The receiver just after a start bit, which is dominant. -/
def Receiver.start : Receiver := { phase := .data, data := [], prev := false, run := 1, stopped := false }

/-- The outcome of one bit or of many. -/
inductive RxResult where
  | more (r : Receiver)
  | done (v : Verdict)
deriving DecidableEq, Repr

/-- The length field, once its bits have been read. -/
def Receiver.length (r : Receiver) : Nat := numberOf ((r.data.reverse.drop 10).take 4)

/-- A sync bit follows the groups of 5, 5 and 4 bits and each byte after them (R46). -/
def groupEnds (count : Nat) : Bool :=
  decide (count = 5) || decide (count = 10) || decide (count = 14) || (decide (14 < count) && decide ((count - 14) % 8 = 0))

/-- The payload bytes of the data bits read. -/
def payloadOf : Nat → List Bool → List Byte
  | 0, _ => []
  | n + 1, bits => BitVec.ofNat 8 (numberOf (bits.take 8)) :: payloadOf n (bits.drop 8)

/-- The frame that a full run of data bits spells. -/
def Receiver.verdict (r : Receiver) : Verdict :=
  let bits := r.data.reverse
  .good (numberOf (bits.take 10)) (payloadOf r.length (bits.drop 14))

/-- The check word read agrees with the register over the bits before it (R192). -/
def Receiver.checkAgrees (r : Receiver) : Bool :=
  let bits := r.data.reverse
  decide ((crcBits (bits.take (bits.length - 16))).toNat = numberOf (bits.drop (bits.length - 16)))

/-- A sync bit read with its required value (R46): a length above 12 (R47) or, after the second check byte, a check word
that disagrees is found here (R51). -/
def Receiver.afterSync (r : Receiver) (b : Bool) (run : Nat) : RxResult :=
  let n := r.data.length
  if decide (14 ≤ n) && decide (12 < r.length) then .done .form
  else if decide (14 ≤ n) && decide (n = 30 + 8 * r.length) then
    (if r.checkAgrees then .more { r with phase := .delimiter, prev := b, run := run } else .done .check)
  else .more { r with phase := .data, prev := b, run := run }

/-- One bit read by a receiver (R47, R51). -/
def Receiver.bit (r : Receiver) (b : Bool) : RxResult :=
  let run := if b then 0 else r.run + 1
  if r.stopped then
    (if b then .done .form else if run = 12 then .done .brk else .more { r with run := run })
  else if run = 10 then .more { r with run := run, stopped := true }
  else match r.phase with
    | .data =>
        let data := b :: r.data
        .more { r with data := data, prev := b, run := run, phase := if groupEnds data.length then .sync else .data }
    | .sync => if b = r.prev then .done .form else r.afterSync b run
    | .delimiter => if b then .more { r with phase := .heard, prev := b, run := run } else .done .form
    | .heard => .more { r with phase := .ending 6, prev := b, run := run }
    | .ending left =>
        if b then
          (match left with
           | 0 => .done r.verdict
           | k + 1 => .more { r with phase := .ending k, prev := b, run := run })
        else .done .form

/-- A receiver reading many bits, stopping at its verdict. -/
def Receiver.scan : Receiver → List Bool → RxResult
  | r, [] => .more r
  | r, b :: bits => match r.bit b with
    | .more r' => r'.scan bits
    | .done v => .done v

/-- The receiver has read the heard slot, so the frame was good through the delimiter (R47, R50). -/
def Receiver.pastHeard (r : Receiver) : Bool :=
  match r.phase with
  | .ending _ => true
  | _ => false

/-- A receiver reads the heard slot among these bits, before its verdict if it comes to one (R50). -/
def Receiver.heardPassed : Receiver → List Bool → Bool
  | r, [] => r.pastHeard
  | r, b :: bits => r.pastHeard || (match r.bit b with
    | .more r' => r'.heardPassed bits
    | .done _ => false)

end Sys2Proof.Machine
end

