-- ==== Sys2Proof/Machine/Queue.lean ====
section
/-! DEFINITION. The transmit queue (R57 to R60): which frame is offered, how a frame is queued or refused, and how one is
withdrawn. -/

namespace Sys2Proof.Machine

/-- The frame is a MARK. -/
def Frame.isMark : Frame → Bool
  | .mark _ => true
  | _ => false

/-- The frame is a DRAW of an id that its consumer has not given up. -/
def Frame.isDrawOf (id : Nat) : Frame → Bool
  | .draw i _ _ p => decide (i = id) && decide (p ≠ .freed)
  | _ => false

/-- The frame is the DRAW of a new draw or an increase of an id: a claim that is weighed against the limit (R167). -/
def Frame.isClaimOf (id : Nat) : Frame → Bool
  | .draw i _ _ p => decide (i = id) && (match p with
      | .new | .increase _ => true
      | .renewal | .decrease | .freed => false)
  | _ => false

/-- The frame is a CUE of a key. -/
def Frame.isCueOf (k : Key) : Frame → Bool
  | .cue k' _ _ _ => decide (k' = k)
  | _ => false

/-- The slot of an age is in an attempt (R57). -/
def Bus.inAttempt (b : Bus) (age : Nat) : Bool :=
  match b.current with
  | some ⟨_, .sending a⟩ => decide (a = age)
  | _ => false

/-- The bus states in which a station sends (R54, R58). -/
def Bus.mayQueue (b : Bus) : Bool := decide (b.state = .active) || decide (b.state = .guarded)

/-- A fresh slot with the next age (R57). -/
def Bus.append (b : Bus) (f : Frame) : Bus :=
  { b with queue := b.queue ++ [{ frame := f, age := b.nextAge, errors := 0, unheard := 0 }], nextAge := b.nextAge + 1 }

/-- The slot of an age takes a new frame, keeping the age (R58). -/
def Bus.replaceAt (b : Bus) (age : Nat) (f : Frame) : Bus :=
  { b with queue := b.queue.map fun q => if q.age = age then { frame := f, age := age, errors := 0, unheard := 0 } else q }

/-- The slot of an age is freed. -/
def Bus.removeAt (b : Bus) (age : Nat) : Bus := { b with queue := b.queue.filter fun q => decide (q.age ≠ age) }

/-- A frame put to the queue of a station that may send (R58): placed, or held beside the queue, or refused. -/
def Bus.put (b : Bus) (f : Frame) : Bus × Bool :=
  match (if f.isMark then b.queue.find? (fun q => q.frame.isMark) else none) with
  | some older =>
      if b.inAttempt older.age then ({ b with heldMark := true }, true) else (b.replaceAt older.age f, true)
  | none => if b.queue.length < 8 then (b.append f, true) else (b, false)

/-- A block queues a frame (R58); the answer is false when it is REFUSED. -/
def Station.enqueue (s : Station) (f : Frame) : Station × Bool :=
  if s.running && s.bus.mayQueue then ({ s with bus := (s.bus.put f).1 }, (s.bus.put f).2) else (s, false)

/-- What a withdrawal finds (R60). -/
inductive Withdrawal where
  | withdrawn
  | inFlight
  | absent
deriving DecidableEq, Repr

/-- A block withdraws a frame it has queued (R60). -/
def Station.withdraw (s : Station) (p : Frame → Bool) : Station × Withdrawal :=
  match s.bus.queue.find? (fun q => p q.frame) with
  | none => (s, .absent)
  | some q => if s.bus.inAttempt q.age then (s, .inFlight) else ({ s with bus := s.bus.removeAt q.age }, .withdrawn)

/-- `a` goes before `b`: a lower arbitration word, or the same word and older (R57). -/
def QueueSlot.before (number : Nat) (a b : QueueSlot) : Bool :=
  decide (a.frame.word number < b.frame.word number)
    || (decide (a.frame.word number = b.frame.word number) && decide (a.age < b.age))

/-- The slot the controller offers (R57). -/
def Bus.offer (b : Bus) (number : Nat) : Option QueueSlot :=
  b.queue.foldl (fun best q => match best with
    | none => some q
    | some x => if q.before number x then some q else some x) none

end Sys2Proof.Machine
end

