-- ==== Sys2Proof/Machine/Budget.lean ====
section
/-! DEFINITION. The draw list, the pending list and the supply budget (R163 to R172). -/

namespace Sys2Proof.Machine

/-! ## The draw list and the view (R163) -/

/-- The sum of the amounts of a list of entries. -/
def viewOf (l : List DrawEntry) : Nat := (l.map fun e => e.amount).sum

/-- The view (R163). -/
def Supply.view (u : Supply) : Nat := viewOf u.draws

/-- The own entry of an id (R163). -/
def Supply.ownEntry (u : Supply) (id : Nat) : Option DrawEntry := u.draws.find? fun e => e.own && decide (e.id = id)

/-- Heard entries in use (R164). -/
def Supply.heardCount (u : Supply) : Nat := u.draws.countP fun e => !e.own

/-- The pending item of an id (R166). -/
def Supply.item (u : Supply) (id : Nat) : Option PendingDraw := u.waiting.find? fun i => decide (i.id = id)

/-- The pending item of an id leaves the list (R166). -/
def Supply.dropItem (u : Supply) (id : Nat) : Supply := { u with waiting := u.waiting.filter fun i => decide (i.id ≠ id) }

/-- The pending item of an id is queued, or waiting again at its place (R166, R168). -/
def Supply.setQueued (u : Supply) (id : Nat) (b : Bool) : Supply :=
  { u with waiting := u.waiting.map fun i => if i.id = id then { i with queued := b } else i }

/-- What an item adds to the view: its amount, or for an increase the increase (R167). -/
def Supply.need (u : Supply) (i : PendingDraw) : Nat :=
  if i.increase then i.amount - ((u.ownEntry i.id).map (·.amount)).getD 0 else i.amount

/-- The committed amount (R167). -/
def Supply.committed (u : Supply) : Nat := u.view + ((u.waiting.filter (·.queued)).map u.need).sum

/-- The limit: the budget, or half of it within the quiet period (R167). -/
def Station.limit (s : Station) : Nat := if s.sup.quietEnd.isSome then s.cfg.budget / 2 else s.cfg.budget

/-! ## Placement (R167) -/

/-- The DRAW of a pending item. -/
def PendingDraw.frame (i : PendingDraw) : Frame := .draw i.id i.amount i.hold (if i.increase then .increase false else .new)

/-- A waiting item fits under the limit (R167). -/
def Station.fits (s : Station) (i : PendingDraw) : Bool :=
  !s.sup.incomplete && decide (s.sup.committed + s.sup.need i ≤ s.limit)

/-- The walk of a placement check: it stops at the first waiting item that is not queued (R167). -/
def Station.placeWalk (s : Station) : List PendingDraw → Station
  | [] => s
  | i :: rest =>
      if i.queued then s.placeWalk rest
      else if s.fits i then
        match s.enqueue i.frame with
        | (s', true) => { s' with sup := s'.sup.setQueued i.id true }.placeWalk rest
        | (_, false) => s
      else s

/-- A placement check (R167). -/
def Station.placementCheck (s : Station) : Station := s.placeWalk s.sup.waiting

/-- A new item enters the list in the order of requests, those of one crystal cycle by ascending id (R166). -/
def insertPending (i : PendingDraw) : List PendingDraw → List PendingDraw
  | [] => [i]
  | j :: rest => if j.requested = i.requested ∧ i.id < j.id then i :: j :: rest else j :: insertPending i rest

/-- A queued claim of an id waits again at its place, its DRAW withdrawn, unless that DRAW is in an attempt (R60, R168). -/
def Station.unqueue (s : Station) (id : Nat) : Station × Withdrawal :=
  match s.withdraw (Frame.isClaimOf id) with
  | (s', .withdrawn) => ({ s' with sup := s'.sup.setQueued id false }, .withdrawn)
  | out => out

/-- The claims of this crystal cycle that stand behind `id` are weighed again after it: those queued wait again (R166). -/
def Station.unqueueBehind (s : Station) (id : Nat) : List PendingDraw → Station
  | [] => s
  | j :: rest =>
      if j.queued && decide (j.requested = s.tb.run) && decide (id < j.id) then (s.unqueue j.id).1.unqueueBehind id rest
      else s.unqueueBehind id rest

/-- A new draw or an increase is asked for (R166); a new draw gives up a pending FREE of its id (R171). Requests of one crystal
cycle are placed in ascending order of id, in whatever order they are made. -/
def Station.requestDraw (s : Station) (id amount hold : Nat) (increase : Bool) : Station :=
  if (s.sup.item id).isSome then s
  else
    let i : PendingDraw :=
      { id := id, amount := amount, hold := hold, increase := increase, queued := false, requested := s.tb.run, told := false }
    let s' := s.unqueueBehind id s.sup.waiting
    { s' with sup := { s'.sup with
        waiting := insertPending i s'.sup.waiting
        frees := if increase then s'.sup.frees else s'.sup.frees.filter fun f => decide (f.id ≠ id) } }.placementCheck

/-! ## Cancel, free, renew, decrease (R170, R171) -/

/-- The DRAW of an id that is in flight is marked as given up (R168, R171). -/
def Bus.giveUpDraw (b : Bus) (id : Nat) : Bus :=
  { b with queue := b.queue.map fun q => match q.frame with
      | .draw i a h _ => if i = id && b.inAttempt q.age then { q with frame := .draw i a h .freed } else q
      | _ => q }

/-- A pending item is cancelled (R171): a queued one is withdrawn; one in flight is given up, and its FREE is queued at the report
alone (R168, log 61). -/
def Station.cancelDraw (s : Station) (id : Nat) : Station :=
  match s.sup.item id with
  | none => s
  | some i =>
      let s' : Station := { s with sup := s.sup.dropItem id }
      if i.queued then
        match s'.withdraw (Frame.isClaimOf id) with
        | (s'', .inFlight) => { s'' with bus := s''.bus.giveUpDraw id }
        | (s'', _) => s''.placementCheck
      else s'

/-- A FREE of an id is queued; refused, it is pending, in place of one of the id that was (R171, log 58). -/
def Station.queueFree (s : Station) (id : Nat) (announced : Option RunTime) : Station :=
  match s.enqueue (.free id) with
  | (s', true) => s'
  | (s', false) => { s' with sup := { s'.sup with frees := (s'.sup.frees.filter fun f => decide (f.id ≠ id)) ++ [⟨id, announced⟩] } }

/-- A DRAW of an id has been announced: a FREE of the id that is pending counts its 150 s from now (R171). -/
def Supply.renewFrees (u : Supply) (id : Nat) (now : RunTime) : Supply :=
  { u with frees := u.frees.map fun f => if f.id = id then { f with announced := some now } else f }

/-- A DRAW that its consumer had given up has completed, and its FREE is queued (R168), for one of the id still pending too (log
58). -/
def Station.freeGivenUp (s : Station) (id : Nat) : Station :=
  ({ s with sup := { s.sup with frees := s.sup.frees.filter fun f => decide (f.id ≠ id) } } : Station).queueFree id (some s.tb.run)

/-- Every DRAW of an id that is not in an attempt leaves the transmit queue (R171). -/
def Station.withdrawDraws (s : Station) (id : Nat) : Station :=
  { s with bus := { s.bus with queue := s.bus.queue.filter fun q => !q.frame.isDrawOf id || s.bus.inAttempt q.age } }

/-- A live draw is freed (R171): its FREE is queued at once, beside the one that the report of an increase given up in flight will
queue (R168, log 61). -/
def Station.freeDraw (s : Station) (id : Nat) : Station :=
  let announced := (s.sup.ownEntry id).bind (·.announced)
  let s1 := match s.sup.item id with
    | some i => if i.increase then s.cancelDraw id else s
    | none => s
  let s2 : Station :=
    { s1 with sup := { s1.sup with draws := s1.sup.draws.filter fun e => !(e.own && decide (e.id = id)) } }
  (s2.placementCheck.withdrawDraws id).placementCheck.queueFree id announced

/-- A renewal or decrease DRAW is queued, or BUDGET_UNANNOUNCED is set (R170). -/
def Station.announce (s : Station) (id amount hold : Nat) (p : DrawPurpose) : Station :=
  match s.enqueue (.draw id amount hold p) with
  | (s', true) => s'
  | (s', false) => s'.raise .budgetUnannounced

/-- An increase of an id in the queue serves for a renewal of the id from now on (R170). -/
def Frame.serving (id : Nat) : Frame → Frame
  | .draw i amount hold (.increase serves) => .draw i amount hold (.increase (serves || decide (i = id)))
  | f => f

/-- The DRAW of an id that stands in the queue serves for a renewal (R170, log 40). -/
def Bus.serveRenewal (b : Bus) (id : Nat) : Bus := { b with queue := b.queue.map fun q => { q with frame := q.frame.serving id } }

/-- A live draw is renewed (R170): with a DRAW of its id already in the queue, none is added, and that one serves. -/
def Station.renewDraw (s : Station) (id hold : Nat) : Station :=
  match s.sup.ownEntry id with
  | none => s
  | some e =>
      if s.bus.queue.any (fun q => q.frame.isDrawOf id) then { s with bus := s.bus.serveRenewal id }
      else s.announce id e.amount hold .renewal

/-- The own entry of an id takes an amount. -/
def Supply.setAmount (u : Supply) (id amount : Nat) : Supply :=
  { u with draws := u.draws.map fun e => if e.own && decide (e.id = id) then { e with amount := amount } else e }

/-- A live draw is lowered (R170). -/
def Station.decreaseDraw (s : Station) (id amount hold : Nat) : Station :=
  (({ s with sup := s.sup.setAmount id amount } : Station).placementCheck).announce id amount hold .decrease

/-- A placed draw: an own entry made, or raised (R168). -/
def Supply.place (u : Supply) (number id amount hold : Nat) (increase : Bool) (now : RunTime) : Supply :=
  if increase then
    { u with draws := u.draws.map fun e =>
        if e.own && decide (e.id = id) then { e with amount := amount, hold := hold, announced := some now } else e }
  else
    { u with draws := u.draws ++
        [{ station := number, id := id, amount := amount, own := true, hold := hold, announced := some now }] }

/-- The own entry of an id is announced with a hold (R170). -/
def Supply.setAnnounced (u : Supply) (id hold : Nat) (now : RunTime) : Supply :=
  { u with draws := u.draws.map fun e =>
      if e.own && decide (e.id = id) then { e with hold := hold, announced := some now } else e }

/-! ## Once-per-second work and overflow (R165, R171) -/

/-- Pending FREEs are tried again; one whose last announcement lies 150 s back is given up (R171). -/
def Station.retryFrees (s : Station) : List PendingFree → Station
  | [] => s
  | f :: rest =>
      let s' : Station := { s with sup := { s.sup with frees := s.sup.frees.filter fun g => decide (g.id ≠ f.id) } }
      let old := match f.announced with
        | none => false
        | some t => decide (secCycles 150 ≤ t.elapsed s.tb.run)
      if old then s'.retryFrees rest
      else match s'.enqueue (.free f.id) with
        | (s'', true) => s''.retryFrees rest
        | (_, false) => s.retryFrees rest

/-- The view-incomplete flag clears once there is room and 150 s have passed since the last overflow (R165). -/
def Station.checkIncomplete (s : Station) : Station :=
  let quietSince := match s.sup.lastOverflow with
    | none => true
    | some t => decide (secCycles 150 ≤ t.elapsed s.tb.run)
  if s.sup.incomplete && decide (s.sup.heardCount < 38) && quietSince then
    ({ s with sup := { s.sup with incomplete := false } } : Station).placementCheck
  else s

/-! ## Heard draws (R164, R169) -/

/-- A heard DRAW taken into the list, or an overflow (R164, R165). One that bears the station's own number, from a twin, and the
id of an own entry makes no second entry, and leaves the own entry to its placements (R163, R167, log 43). -/
def Station.takeDraw (s : Station) (src id amount hold : Nat) : Station :=
  if s.sup.draws.any (fun e => e.own && decide (e.station = src) && decide (e.id = id)) then s
  else if s.sup.draws.any (fun e => !e.own && decide (e.station = src) && decide (e.id = id)) then
    { s with sup := { s.sup with draws := s.sup.draws.map fun e =>
        if (!e.own && decide (e.station = src) && decide (e.id = id)) then
          { e with amount := amount, hold := hold, announced := some s.tb.run } else e } }
  else if s.sup.heardCount < 38 then
    { s with sup := { s.sup with draws := s.sup.draws ++
        [{ station := src, id := id, amount := amount, own := false, hold := hold, announced := some s.tb.run }] } }
  else
    ({ s with sup := { s.sup with incomplete := true, lastOverflow := some s.tb.run } } : Station).raise .viewIncomplete

/-- Queued items are weighed again, oldest first, from the sum so far; one that no longer fits is withdrawn (R169). -/
def Station.recheckWalk (s : Station) (sum : Nat) : List PendingDraw → Station
  | [] => s
  | i :: rest =>
      if i.queued then
        if s.sup.incomplete || decide (s.limit < sum + s.sup.need i) then
          match s.unqueue i.id with
          | (s', .withdrawn) => s'.recheckWalk sum rest
          | (s', _) => s'.recheckWalk (sum + s.sup.need i) rest
        else s.recheckWalk (sum + s.sup.need i) rest
      else s.recheckWalk sum rest

/-- What follows a heard DRAW: the re-check (R169), and a placement check when the view has been lowered or a DRAW has been
withdrawn (R167); `before` is the view before the DRAW. -/
def Station.recheckDraws (s : Station) (before : Nat) : Station :=
  let t := s.recheckWalk s.sup.view s.sup.waiting
  if decide (s.sup.view < before) || decide (t.bus.queue.length < s.bus.queue.length) then t.placementCheck else t

/-- A heard entry is removed (R164), with the look at the view-incomplete flag and the placement check that follow. -/
def Station.removeHeard (s : Station) (station id : Nat) : Station :=
  ({ s with sup := { s.sup with draws := s.sup.draws.filter fun e =>
      !(!e.own && decide (e.station = station) && decide (e.id = id)) } } : Station).checkIncomplete.placementCheck

end Sys2Proof.Machine
end

