-- ==== Sys2Proof/Machine/Clock.lean ====
section
/-! DEFINITION. The time base's own operations (01_tower_time.md): the advance of a crystal cycle, the correction of a
second, steps, and the boundary events it raises. -/

namespace Sys2Proof.Machine

/-! ## Advance (R2, R4) -/

/-- Tick units gained on a cycle whose cycle count before it is `cyc` (R4). -/
def cycleGain (q : Int) (r cyc : Nat) : Int := 15625 + q + (if cyc < r then 1 else 0)

/-- Tower time after a gain of so many tick units, with the carries of R2. -/
def TimeBase.gain (tb : TimeBase) (units : Int) : TimeBase :=
  let total := (tb.frac : Int) + units
  let t := tb.now.plus (total / (Config.unitsPerUs : Int))
  { tb with day := t.day, us := t.us, frac := (total % (Config.unitsPerUs : Int)).toNat, lastGain := units.toNat }

/-! ## The correction of a second (R5 to R8) -/

/-- The dividend of the rate part (R5). -/
def TimeBase.rateDividend (tb : TimeBase) : Int := tb.rate * 512 + tb.rho

/-- The rate part in tick units, by truncated division (R5). -/
def TimeBase.ratePart (tb : TimeBase) : Int := tb.rateDividend.tdiv 1000

/-- The remainder that becomes the new rho (R5). -/
def TimeBase.rateLeft (tb : TimeBase) : Int := tb.rateDividend.tmod 1000

/-- The slew part of a second (R6). -/
def TimeBase.slewPart (tb : TimeBase) : Int := clampInt (-4000) 4000 tb.slew

/-- The spread of a correction, by floor division (R7). -/
def TimeBase.spread (tb : TimeBase) (d : Int) : TimeBase :=
  { tb with q := d / 32768, r := (d % 32768).toNat }

/-- The correction at a local second boundary (R5 to R8). -/
def TimeBase.openSecond (tb : TimeBase) : TimeBase :=
  { tb with rho := tb.rateLeft, slew := tb.slew - tb.slewPart, secondDue := false }.spread
    (tb.ratePart + tb.slewPart * 512)

/-- The backup domain's correction, from the rate part alone (R18). -/
def TimeBase.openBackupSecond (tb : TimeBase) : TimeBase :=
  { tb with rho := tb.rateLeft, backupDue := false }.spread tb.ratePart

/-- A slew addition, its sum clamped (R6). -/
def TimeBase.addSlew (tb : TimeBase) (theta : Int) : TimeBase :=
  { tb with slew := clampInt (-2000000) 2000000 (tb.slew + theta) }

/-- What a step does to the time base (R9). A tower second raised on the cycle and not yet taken is given up: the moments still
ahead in the second that is then in progress are looked for anew (R21, log 10). -/
def TimeBase.step (tb : TimeBase) (delta : Int) : TimeBase :=
  let t := tb.now.plus delta
  { tb with day := t.day, us := t.us, slew := 0, valid := true, towerSecondDue := none }

/-! ## Boundary events (R14) -/

/-- A time advancing from `old` to `new` reaches a multiple of `unit` microseconds of day (R14). -/
def crossed (unit : Nat) (old new : TowerTime) : Bool :=
  decide (old.day ≠ new.day) || decide (old.us / unit ≠ new.us / unit)

/-- Quarter number of a minute of day: 1 at :15, 2 at :30, 3 at :45, 4 at :00 (R14). -/
def quarterNumber (minute : Nat) : Nat := if minute / 15 % 4 = 0 then 4 else minute / 15 % 4

/-- The tower second event of a crossing, in every run state (R14). -/
def TimeBase.raiseTower (tb : TimeBase) (old : TowerTime) : TimeBase :=
  { tb with towerSecondDue :=
      if crossed 1000000 old tb.now then some { day := tb.day, us := tb.us / 1000000 * 1000000 } else tb.towerSecondDue }

/-- The 30-s, minute, quarter and hour events of a crossing (R14). -/
def TimeBase.raiseCivil (tb : TimeBase) (old : TowerTime) : TimeBase :=
  let o := old.civil tb.offset
  let n := tb.civil
  let m := n.minute
  { tb with
    dialDue := if crossed 30000000 o n then some (n.us / 30000000 * 30) else tb.dialDue
    minuteDue := if crossed 60000000 o n then some ⟨n.day, m, tb.day, tb.now.minute⟩ else tb.minuteDue
    quarterDue := if crossed 900000000 o n then some ⟨quarterNumber m, m / 60, tb.day, tb.now.minute⟩ else tb.quarterDue
    hourDue := if crossed 3600000000 o n then some ⟨m / 60, n.day, tb.day, tb.now.minute⟩ else tb.hourDue }

/-- The events of a crossing: the civil ones only while RUNNING with the time valid (R14). -/
def TimeBase.raiseEvents (tb : TimeBase) (old : TowerTime) (civil : Bool) : TimeBase :=
  if civil then (tb.raiseTower old).raiseCivil old else tb.raiseTower old

/-- Forget the civil events raised and not taken, when the station leaves RUNNING (R14). -/
def TimeBase.dropEvents (tb : TimeBase) : TimeBase :=
  { tb with dialDue := none, minuteDue := none, quarterDue := none, hourDue := none }

/-- One crystal cycle outside SUPPLY_WAIT (R1, R4). -/
def TimeBase.cycle (tb : TimeBase) (civil : Bool) : TimeBase :=
  let g := tb.gain (cycleGain tb.q tb.r tb.run.cyc)
  let t := { g with run := tb.run.tick, secondDue := decide (tb.run.tick.cyc = 0) }
  t.raiseEvents tb.now civil

/-- One crystal cycle of the backup domain (R18): its own cycle count spreads the gain, and run time stands. -/
def TimeBase.backupCycle (tb : TimeBase) : TimeBase :=
  let g := tb.gain (cycleGain tb.q tb.r tb.backupCyc)
  let n := if tb.backupCyc + 1 < Config.cyclesPerSecond then tb.backupCyc + 1 else 0
  { g with backupCyc := n, backupDue := decide (n = 0) }.raiseEvents tb.now false

/-- The backup domain takes over tower time (R18); the moment counts as its first second boundary (log 9). A local second
boundary raised on that very cycle and not yet taken is given up, with its division (log 4). -/
def TimeBase.takeOver (tb : TimeBase) : TimeBase :=
  { tb.dropEvents with slew := 0, backupCyc := 0, secondDue := false, backupDue := true }

/-- The time base at a start moment (R19): COLD clears it, RESTORE and WARM keep it; run time 0, and the start moment is a
local second boundary (R1, R8). A second boundary of the backup domain raised on that very cycle and not yet taken is given up
(log 4). -/
def TimeBase.startAt (tb : TimeBase) (kind : StartKind) : TimeBase :=
  match kind with
  | .cold => TimeBase.cold.openSecond
  | .restore | .warm =>
      { tb.dropEvents with run := ⟨0, 0⟩, slew := 0, backupCyc := 0, backupDue := false }.openSecond

/-! ## Filtered inputs (R76, R149, R162) -/

/-- One cycle of a line's filter: a new level is taken once it has lasted 2 ms. -/
def FilteredLine.sample (f : FilteredLine) (raw : Bool) : FilteredLine :=
  if raw = f.level then { f with lasted := 0 }
  else if f.lasted + 1 < Config.filterCycles then { f with lasted := f.lasted + 1 }
  else { level := raw, lasted := 0 }

/-- One cycle of the lines of a group, line `i` being bit `i` of the levels. -/
def sampleLines : Nat → List FilteredLine → Nat → List FilteredLine
  | _, [], _ => []
  | i, f :: rest, levels => f.sample (bitOf levels i) :: sampleLines (i + 1) rest levels

/-- One cycle of every input line. -/
def Lines.sample (l : Lines) (inp : Inputs) : Lines :=
  { rest := sampleLines 0 l.rest inp.rest.toNat, twelve := sampleLines 0 l.twelve inp.twelve.toNat,
    feedback := sampleLines 0 l.feedback inp.feedback.toNat, backup := inp.backup }

/-- The filtered level of a hammer return sensor: rest shown (R76). -/
def Station.showsRest (s : Station) (ch : Nat) : Bool := (s.lines.rest.getD ch ⟨false, 0⟩).level

/-- The filtered level of a twelve-o'clock sensor (R149). -/
def Station.atTwelve (s : Station) (d : Nat) : Bool := (s.lines.twelve.getD d ⟨false, 0⟩).level

/-- The filtered level of a contactor's feedback: closed (R162). -/
def Station.showsClosed (s : Station) (c : Nat) : Bool := (s.lines.feedback.getD c ⟨false, 0⟩).level

end Sys2Proof.Machine
end

