-- ==== Sys2Proof/Machine/Dials.lean ====
section
/-! DEFINITION. The dial unit's operations (07_dials.md): target and evaluation, pulses, the sensor rule, seeking. -/

namespace Sys2Proof.Machine

/-- The record of a dial. -/
def Station.dial (s : Station) (d : Nat) : Dial := s.dials.getD d Dial.cold

/-- The configured fields of a dial (R139). -/
def Station.dialCfg (s : Station) (d : Nat) : DialConfig :=
  s.cfg.dials.getD d { used := false, width := 100, interval := 1, current := 1 }

/-- Replace the record of a dial. -/
def Station.setDial (s : Station) (d : Nat) (x : Dial) : Station := { s with dials := s.dials.set d x }

/-- The draw id of a dial (R139). -/
def dialDrawId (d : Nat) : Nat := 8 + d

/-- The step at which hands should stand at a civil second of day (R141). -/
def dialTarget (second : Nat) : Nat := second / 30 % 1440

/-- The distance from a position to the target of the present civil time (R141). -/
def Station.dialDistance (s : Station) (position : Nat) : Nat := (dialTarget s.tb.civil.second + 1440 - position) % 1440

/-- The hold of a catch-up draw (R145, R147). -/
def catchUpHold (distance interval : Nat) : Nat := min 150 (distance * interval + 10)

/-- The other polarity (R143). -/
def Polarity.turned : Polarity → Polarity
  | .positive => .negative
  | .negative => .positive

/-- One step on, from 1,439 to 0 (R143). -/
def stepOn (p : Nat) : Nat := if p < 1439 then p + 1 else 0

/-- A pulse begins (R143). -/
def Dial.beginPulse (x : Dial) (run : RunTime) (width : Nat) (active : Bool) : Dial :=
  { x with polarity := x.polarity.turned, position := x.position.map stepOn, lastBegin := some run,
           pulseEnd := some (run.plus (msCycles width)), beganActive := active }

/-- A pulse of a dial of the station begins (R143). -/
def Station.beginPulse (s : Station) (d : Nat) : Station :=
  s.setDial d ((s.dial d).beginPulse s.tb.run (s.dialCfg d).width (s.atTwelve d))

/-- A dial takes a state and ends its draw: a live one is freed, a pending one cancelled (R142, R147). -/
def Station.restDial (s : Station) (d : Nat) (st : DialState) : Station :=
  let x := s.dial d
  let s' := s.setDial d { x with state := st, draw := .none, renewalDue := none }
  match x.draw with
  | .none => s'
  | .pending => s'.cancelDraw (dialDrawId d)
  | .live => s'.freeDraw (dialDrawId d)

/-- A dial asks for a draw and waits (R145, R150). -/
def Station.askDial (s : Station) (d hold : Nat) : Station :=
  (s.setDial d { s.dial d with state := .waitingSupply, draw := .pending }).requestDraw (dialDrawId d)
    (s.dialCfg d).current hold false

/-- The evaluation of a dial whose position is known, with the time valid: the table of R142. -/
def Station.placeDial (s : Station) (d position : Nat) : Station :=
  let dist := s.dialDistance position
  if dist = 0 then s.restDial d .idle
  else if 720 < dist then s.restDial d .holding
  else match (s.dial d).draw with
    | .live => s.setDial d { s.dial d with state := .catchingUp }
    | .pending =>
        if dist = 1 then (s.restDial d .pulsing).beginPulse d
        else s.setDial d { s.dial d with state := .waitingSupply }
    | .none =>
        if dist = 1 then (s.restDial d .pulsing).beginPulse d
        else s.askDial d (catchUpHold dist (s.dialCfg d).interval)

/-- The evaluation of a dial whose position is unknown (R150). -/
def Station.seekDial (s : Station) (d : Nat) : Station :=
  match (s.dial d).draw with
  | .none => s.askDial d 150
  | .pending => s.setDial d { s.dial d with state := .waitingSupply }
  | .live => s.setDial d { s.dial d with state := .seeking }

/-- A dial that an evaluation passes over: unused, faulted, or with its drive energised (R141). -/
def Dial.passedOver (x : Dial) : Bool :=
  decide (x.state = .unused) || decide (x.state = .faulted) || x.pulseEnd.isSome

/-- An evaluation of a dial (R141, R142). -/
def Station.evaluateDial (s : Station) (d : Nat) : Station :=
  if (s.dial d).passedOver then s
  else match (s.dial d).position with
    | none => s.seekDial d
    | some p => if s.tb.valid then s.placeDial d p else s.restDial d .holding

/-- An evaluation of every dial, in RUNNING (R141, R152), in the order of their numbers (log 57). -/
def Station.evaluateDials (s : Station) : Station :=
  if s.running then (((s.evaluateDial 0).evaluateDial 1).evaluateDial 2).evaluateDial 3 else s

/-- The report PLACED reaches a dial (R145, R146, R150). -/
def Station.dialPlaced (s : Station) (d : Nat) : Station :=
  if (s.dial d).draw = .pending then
    let s' := (s.setDial d { s.dial d with
      draw := .live, renewalDue := some (s.tb.run.plus (secCycles 60)), seeks := 0 }).evaluateDial d
    if decide ((s'.dial d).state = .catchingUp) || decide ((s'.dial d).state = .seeking) then s'.beginPulse d else s'
  else s.freeDraw (dialDrawId d)

/-- The sensor rule at the end of a pulse of a dial whose position is known (R149), with the flag it sets. -/
def Dial.sensorRule (x : Dial) (position : Nat) (marked : Bool) : Dial × Option Anomaly :=
  if position = 0 then
    (if marked then ({ x with misses := 0 }, none)
     else ({ x with misses := min 2 (x.misses + 1) }, if 2 ≤ x.misses + 1 then some .dialSensorFault else none))
  else if marked then ({ x with position := some 0, misses := 0 }, some .dialSlip)
  else (x, none)

/-- Set a flag where there is one. -/
def Station.raiseOpt (s : Station) : Option Anomaly → Station
  | none => s
  | some a => s.raise a

/-- The end of a seek pulse (R150). -/
def Station.endSeekPulse (s : Station) (d : Nat) (marked : Bool) : Station :=
  let x := s.dial d
  if marked then (s.setDial d { x with position := some 0, misses := 0, seeks := 0 }).evaluateDial d
  else if x.seeks + 1 < 1440 then s.setDial d { x with seeks := x.seeks + 1 }
  else (s.setDial d { x with seeks := 1440 }).restDial d .faulted

/-- What follows the sensor rule: an evaluation in RUNNING, and after a RESTART one of a dial that is catching up; any other
dial holds until RUNNING entry (R143, R153). -/
def Station.afterPulse (s : Station) (d : Nat) : Station :=
  if s.running || decide ((s.dial d).state = .catchingUp) then s.evaluateDial d
  else s.setDial d { s.dial d with state := .holding }

/-- The end of a pulse (R143). -/
def Station.endPulse (s : Station) (d : Nat) : Station :=
  let x := { s.dial d with pulseEnd := none }
  let marked := !x.beganActive && s.atTwelve d
  match x.state, x.position with
  | .seeking, _ => (s.setDial d x).endSeekPulse d marked
  | _, none => (s.setDial d x).afterPulse d
  | _, some p => ((s.setDial d (x.sensorRule p marked).1).raiseOpt (x.sensorRule p marked).2).afterPulse d

/-- The next pulse of a catch-up or seek is due (R146, R150). -/
def Station.dialPulseDue (s : Station) (d : Nat) : Bool :=
  s.inService && (decide ((s.dial d).state = .catchingUp) || decide ((s.dial d).state = .seeking)) && (s.dial d).pulseEnd.isNone
    && (match (s.dial d).lastBegin with
        | none => true
        | some t => (t.plus (secCycles (s.dialCfg d).interval)).reached s.tb.run)

/-- The end of a pulse, and the pulse that begins at it when it fell due while the drive was energised (R143, R146). -/
def Station.dialPulseOver (s : Station) (d : Nat) : Station :=
  if (s.endPulse d).dialPulseDue d then (s.endPulse d).beginPulse d else s.endPulse d

/-- The hold of a dial's renewal (R147). -/
def Station.dialRenewalHold (s : Station) (d : Nat) : Nat :=
  match (s.dial d).position with
  | none => 150
  | some p => catchUpHold (s.dialDistance p) (s.dialCfg d).interval

/-- A DIAL_SET is taken (R151). -/
def Dial.setTo (x : Dial) (position : Option Nat) : Dial :=
  let y := { x with position := position, misses := 0, seeks := 0 }
  if x.state = .faulted then { y with state := .holding, draw := .none, renewalDue := none } else y

end Sys2Proof.Machine
end

