-- ==== Sys2Proof/Machine/Ops.lean ====
section
/-! DEFINITION. Operations on the configuration memory (11.4): a list of (address, byte) with addresses rising, in which no
byte that an unlisted address reads as is listed. -/

namespace Sys2Proof.Machine

/-- The configuration memory as it is held in the state. -/
abbrev Memory := List Host.Cell

/-- What a byte that nothing has written reads as (log 7). -/
def Memory.unwritten : Byte := 0

/-- The byte at an address. -/
def Memory.read : Memory → Nat → Byte
  | [], _ => Memory.unwritten
  | (b, v) :: rest, a => if a = b then v else Memory.read rest a

/-- Write one byte, keeping the canonical form. -/
def Memory.write : Memory → Nat → Byte → Memory
  | [], a, v => if v = Memory.unwritten then [] else [(a, v)]
  | (b, w) :: rest, a, v =>
      if a < b then (if v = Memory.unwritten then (b, w) :: rest else (a, v) :: (b, w) :: rest)
      else if a = b then (if v = Memory.unwritten then rest else (a, v) :: rest)
      else (b, w) :: Memory.write rest a v

/-- The canonical form above a lower bound: addresses at or above it and rising, no byte that reads as unwritten. -/
def Memory.wfFrom : Nat → Memory → Bool
  | _, [] => true
  | lo, (a, v) :: rest => decide (lo ≤ a) && decide (v ≠ Memory.unwritten) && Memory.wfFrom (a + 1) rest

/-- The canonical form, within the bytes the manual gives the memory. -/
def Memory.wf (m : Memory) : Bool := Memory.wfFrom 0 m && m.all fun c => decide (c.1 < Config.memBytes)

/-- `n` bytes from an address on. -/
def Memory.readBytes (m : Memory) : Nat → Nat → List Byte
  | _, 0 => []
  | a, n + 1 => m.read a :: Memory.readBytes m (a + 1) n

/-- Write bytes from an address on; an address beyond the memory is left out. -/
def Memory.writeBytes : Memory → Nat → List Byte → Memory
  | m, _, [] => m
  | m, a, v :: rest =>
      Memory.writeBytes (if a < Config.memBytes then m.write a v else m) (a + 1) rest

/-- Write the bytes rewritten on the board, in order; an address beyond the memory is left out. -/
def Memory.rewrite : Memory → List Host.Cell → Memory
  | m, [] => m
  | m, (a, v) :: rest => Memory.rewrite (if a < Config.memBytes then m.write a v else m) rest

/-- The first address of a board rewrite that the memory does not have. -/
def Memory.firstAbsent : List Host.Cell → Option Nat
  | [] => none
  | (a, _) :: rest => if a < Config.memBytes then Memory.firstAbsent rest else some a

end Sys2Proof.Machine
end

