-- ==== Sys2Proof/Machine/Calendar.lean ====
section
/-! DEFINITION. The programme store's records and questions: layouts (11.4), day selectors (R124), times and windows (R126 to
R130), the dusk table (R134), the note store (R115, R121). -/

namespace Sys2Proof.Machine

/-! ## Layouts of stored records (11.4) -/

/-- Code of a phrase mark (11.4). -/
def Phrase.code : Phrase → Nat
  | .none => 0
  | .start => 1
  | .inside => 2
  | .ends => 3

/-- The phrase mark of a 2-bit code (11.4). -/
def Phrase.ofCode (n : Nat) : Phrase := if n = 0 then .none else if n = 1 then .start else if n = 2 then .inside else .ends

/-- A note record's four bytes (11.4). -/
def Note.bytes (n : Note) : List Byte :=
  bytesOf 2 n.offset ++ [BitVec.ofNat 8 n.bell, BitVec.ofNat 8 (n.phrase.code * 4 + (n.velocity - 1))]

/-- The note four bytes from `i` on spell (11.4). -/
def noteAt (bs : List Byte) (i : Nat) : Note :=
  { offset := word16 bs i, bell := byteAt bs (i + 2), velocity := byteAt bs (i + 3) % 4 + 1,
    phrase := Phrase.ofCode (byteAt bs (i + 3) / 4 % 4) }

/-- Code of a directory entry's state (11.4). -/
def TuneState.code : TuneState → Nat
  | .opened => 0
  | .ready => 1
  | .incomplete => 2

/-- A directory entry's ten bytes (11.4). -/
def Tune.bytes (t : Tune) : List Byte :=
  BitVec.ofNat 8 t.number :: (bytesOf 2 t.length ++ bytesOf 2 t.beat ++ bytesOf 2 t.own ++ bytesOf 2 t.first
    ++ [BitVec.ofNat 8 t.state.code])

/-- The selector's code, mask, and two day fields (11.4). -/
def Selector.fields : Selector → Nat × Nat × Nat × Nat
  | .weekly mask => (0, mask, 0, 0)
  | .date d => (1, 0, d, 0)
  | .season mask a b => (2, mask, a, b)

/-- The kind code of a calendar entry (11.4). -/
def CalendarWork.code : CalendarWork → Nat
  | .quarters _ _ _ _ _ _ _ => 1
  | .tune _ _ _ => 2
  | .toll _ _ _ _ => 3
  | .light _ _ => 4
  | .silent _ _ => 5
  | .offset _ _ => 6

/-- Bytes 6 to 13 of a calendar entry (11.4). -/
def CalendarWork.bytes : CalendarWork → List Byte
  | .quarters t1 t2 t3 t4 a b beat =>
      [BitVec.ofNat 8 a, BitVec.ofNat 8 b] ++ bytesOf 2 beat
        ++ [BitVec.ofNat 8 t1, BitVec.ofNat 8 t2, BitVec.ofNat 8 t3, BitVec.ofNat 8 t4]
  | .tune m t beat => bytesOf 2 m ++ bytesOf 2 beat ++ [BitVec.ofNat 8 t, 0, 0, 0]
  | .toll m bell interval count =>
      bytesOf 2 m ++ bytesOf 2 interval ++ [BitVec.ofNat 8 bell, BitVec.ofNat 8 count, 0, 0]
  | .light (.fixed m) scene => bytesOf 2 m ++ [BitVec.ofNat 8 scene, 0, 0, 0, 0, 0]
  | .light (.dusk off) scene => [0x80] ++ signedBytes 1 off ++ [BitVec.ofNat 8 scene, 0, 0, 0, 0, 0]
  | .silent a b => bytesOf 2 a ++ bytesOf 2 b ++ [0, 0, 0, 0]
  | .offset m off => bytesOf 2 m ++ [BitVec.ofNat 8 off, 0, 0, 0, 0, 0]

/-- A calendar entry's 14 bytes (11.4). -/
def CalendarEntry.bytes (e : CalendarEntry) : List Byte :=
  let f := e.selector.fields
  [BitVec.ofNat 8 (e.work.code * 16 + f.1), BitVec.ofNat 8 f.2.1] ++ bytesOf 2 f.2.2.1 ++ bytesOf 2 f.2.2.2
    ++ e.work.bytes

/-- A calendar slot's 14 bytes, zero for an empty one (11.4). -/
def slotBytes : Option CalendarSlot → List Byte
  | none => List.replicate 14 0
  | some c => c.entry.bytes

/-- A beat of a calendar entry: 0 or 150..2,000 (R123). -/
def beatValid (n : Nat) : Bool := decide (n = 0) || (decide (150 ≤ n) && decide (n ≤ 2000))

/-- The day selector 14 bytes spell, if its fields are in range (R124, 11.4). -/
def selectorOf (bs : List Byte) : Option Selector :=
  let mask := byteAt bs 1 % 128
  match byteAt bs 0 % 16 with
  | 0 => if mask = 0 then none else some (.weekly mask)
  | 1 => some (.date (word16 bs 2))
  | 2 => if decide (mask ≠ 0) && decide (word16 bs 2 ≤ 365) && decide (word16 bs 4 ≤ 365) then
        some (.season mask (word16 bs 2) (word16 bs 4)) else none
  | _ => none

/-- Kind, time and argument 14 bytes spell, if its fields are in range (R123, 11.4). -/
def workOf (bs : List Byte) : Option CalendarWork :=
  let m := word16 bs 6
  match byteAt bs 0 / 16 with
  | 1 =>
      if decide (byteAt bs 10 ≤ 250) && decide (byteAt bs 11 ≤ 250) && decide (byteAt bs 12 ≤ 250)
          && decide (byteAt bs 13 ≤ 250) && decide (byteAt bs 6 ≤ 23) && decide (byteAt bs 7 ≤ 23)
          && beatValid (word16 bs 8) then
        some (.quarters (byteAt bs 10) (byteAt bs 11) (byteAt bs 12) (byteAt bs 13) (byteAt bs 6) (byteAt bs 7) (word16 bs 8))
      else none
  | 2 =>
      if decide (m < 1440) && decide (1 ≤ byteAt bs 10) && decide (byteAt bs 10 ≤ 250) && beatValid (word16 bs 8) then
        some (.tune m (byteAt bs 10) (word16 bs 8)) else none
  | 3 =>
      if decide (m < 1440) && decide (1 ≤ byteAt bs 10) && decide (byteAt bs 10 ≤ 64)
          && decide (1000 ≤ word16 bs 8) && decide (word16 bs 8 ≤ 60000) then
        some (.toll m (byteAt bs 10) (word16 bs 8) (byteAt bs 11)) else none
  | 4 =>
      if byteAt bs 8 ≤ 15 then
        if bitOf m 15 then
          (if decide (-120 ≤ signed8 (byteAt bs 7)) && decide (signed8 (byteAt bs 7) ≤ 120) then
            some (.light (.dusk (signed8 (byteAt bs 7))) (byteAt bs 8)) else none)
        else if m < 1440 then some (.light (.fixed m) (byteAt bs 8)) else none
      else none
  | 5 =>
      if decide (m < 1440) && decide (word16 bs 8 < 1440) && decide (m ≠ word16 bs 8) then
        some (.silent m (word16 bs 8)) else none
  | 6 =>
      if decide (m < 1440) && decide (byteAt bs 8 ≤ 180) && decide (byteAt bs 8 % 15 = 0) then
        some (.offset m (byteAt bs 8)) else none
  | _ => none

/-- The calendar entry 14 bytes spell, if every field is in range (R123, R124). -/
def entryOf (bs : List Byte) : Option CalendarEntry :=
  match workOf bs, selectorOf bs with
  | some w, some sel => some { selector := sel, work := w }
  | _, _ => none

/-- Fresh last-fired records: four for QUARTERS, one otherwise (R123). -/
def CalendarEntry.slot (e : CalendarEntry) : CalendarSlot :=
  { entry := e, fired := match e.work with
      | .quarters _ _ _ _ _ _ _ => List.replicate 4 none
      | _ => [none] }

/-- The calendar slot 14 bytes spell: `some none` for an empty one, `none` when a field is out of range (R125). -/
def slotOf (bs : List Byte) : Option (Option CalendarSlot) :=
  if byteAt bs 0 / 16 = 0 then some none else (entryOf bs).map fun e => some e.slot

/-! ## Selectors and times (R124, R127 to R130, R134) -/

/-- A day number's weekday is in a mask (R124). -/
def inMask (mask day : Nat) : Bool := bitOf mask (weekday day)

/-- A selector matches a date (R124). -/
def Selector.selects (sel : Selector) (day : Nat) : Bool :=
  match sel with
  | .weekly mask => inMask mask day
  | .date d => decide (day = d)
  | .season mask a b =>
      inMask mask day &&
        (if a ≤ b then decide (a ≤ dayOfYear day) && decide (dayOfYear day ≤ b)
         else decide (a ≤ dayOfYear day) || decide (dayOfYear day ≤ b))

/-- A quotient by 8 rounded to the nearest whole number, halves away from zero (R134). -/
def roundEighth (x : Int) : Int := if 0 ≤ x then (x + 4) / 8 else -((-x + 4) / 8)

/-- The dusk table is present: every entry has been loaded or written (R137). -/
def Programme.duskPresent (p : Programme) : Bool := p.dusk.all (·.isSome)

/-- Dusk entry `k`, entry 46 being entry 0 (R134). -/
def Programme.duskEntry (p : Programme) (k : Nat) : Int := (((p.dusk.getD (k % 46) none).getD 0 : Nat) : Int)

/-- The dusk minute of a day of year (R134). -/
def Programme.duskMinute (p : Programme) (d : Nat) : Int :=
  p.duskEntry (d / 8) + roundEighth ((p.duskEntry (d / 8 + 1) - p.duskEntry (d / 8)) * ((d % 8 : Nat) : Int))

/-- The civil minute of a LIGHT entry on a civil date; none for a DUSK entry while the dusk table is absent (R130, R134). -/
def Programme.lightMinute (p : Programme) (civilDay offset : Nat) : LightTime → Option Nat
  | .fixed m => some m
  | .dusk off =>
      if p.duskPresent then
        some (clampInt 0 1439 (p.duskMinute (dayOfYear civilDay) + (offset : Int) + off)).toNat
      else none

/-- A SILENT window covers a civil minute on a civil date (R128). -/
def CalendarEntry.covers (e : CalendarEntry) (civilDay minute : Nat) : Bool :=
  match e.work with
  | .silent a b =>
      if a < b then e.selector.selects civilDay && decide (a ≤ minute) && decide (minute < b)
      else (e.selector.selects civilDay && decide (a ≤ minute))
        || (e.selector.selects (dayBefore civilDay) && decide (minute < b))
  | _ => false

/-- Some SILENT window covers a civil minute on a civil date (R128). -/
def Programme.silentAt (p : Programme) (civilDay minute : Nat) : Bool :=
  p.calendar.any fun c => match c with
    | none => false
    | some s => s.entry.covers civilDay minute

/-- Of two LIGHT entries found, the later time is taken, and of one time the one found later, the higher slot (R130). -/
def laterLight (best : Option (Nat × Nat)) (m scene : Nat) : Option (Nat × Nat) :=
  match best with
  | none => some (m, scene)
  | some (bm, bs) => if bm ≤ m then some (m, scene) else some (bm, bs)

/-- The LIGHT entry of a civil date with the latest time at or before a minute: its time and scene (R130). -/
def Programme.lastLight (p : Programme) (civilDay offset upTo : Nat) : Option (Nat × Nat) :=
  p.calendar.foldl (fun best c => match c with
    | none => best
    | some s => match s.entry.work with
      | .light time scene =>
          if s.entry.selector.selects civilDay then
            match p.lightMinute civilDay offset time with
            | some m => if m ≤ upTo then laterLight best m scene else best
            | none => best
          else best
      | _ => best) none

/-- The scene in force at a civil time (R130). -/
def Programme.sceneAt (p : Programme) (t : TowerTime) (offset : Nat) : Nat :=
  match p.lastLight t.day offset t.minute with
  | some (_, scene) => scene
  | none => match p.lastLight (dayBefore t.day) offset 1439 with
    | some (_, scene) => scene
    | none => 0

/-- The hour range of a QUARTERS entry contains an hour (R127). -/
def hourInRange (a b h : Nat) : Bool :=
  if a ≤ b then decide (a ≤ h) && decide (h ≤ b) else decide (a ≤ h) || decide (h ≤ b)

/-- A last-fired record lets the entry fire at a civil minute (R126). -/
def firedAllows (f : Option LastFired) (now : RunTime) (minute : Nat) : Bool :=
  match f with
  | none => true
  | some l => decide (secCycles 3900 < l.run.elapsed now) || decide (l.minute ≠ minute)

/-- What a calendar entry hands on when it fires (R126). -/
inductive Work where
  | cue (key : Key) (beat count : Nat)
  | scene (n : Nat)
  | offset (minutes : Nat)
deriving DecidableEq, Repr

/-- The tune of a quarter in a QUARTERS entry, 0 for none (R127). -/
def quarterTune (t1 t2 t3 t4 q : Nat) : Nat := if q = 1 then t1 else if q = 2 then t2 else if q = 3 then t3 else t4

/-- Whether an entry fires at a boundary, with the index of its last-fired record and its work (R126 to R129). -/
def CalendarSlot.due (c : CalendarSlot) (p : Programme) (cueCapable : Bool) (offset : Nat) (now : RunTime)
    (b : MinuteEvent) : Option (Nat × Work) :=
  let allows (i : Nat) : Bool := firedAllows (c.fired.getD i none) now b.civilMinute
  match c.entry.work with
  | .quarters t1 t2 t3 t4 a z beat =>
      let q := quarterNumber b.civilMinute
      let tune := quarterTune t1 t2 t3 t4 q
      if cueCapable && decide (b.civilMinute % 15 = 0) && hourInRange a z (b.civilMinute / 60) && decide (tune ≠ 0)
          && c.entry.selector.selects b.civilDay && !(p.silentAt b.civilDay b.civilMinute) && allows (q - 1) then
        some (q - 1, .cue ⟨.quarter, tune, q, b.towerDay, b.towerMinute⟩ beat 0)
      else none
  | .tune m tune beat =>
      if cueCapable && decide (b.civilMinute = m) && c.entry.selector.selects b.civilDay && allows 0 then
        some (0, .cue ⟨.tune, tune, 0, b.towerDay, b.towerMinute⟩ beat 0)
      else none
  | .toll m bell interval count =>
      if cueCapable && decide (b.civilMinute = m) && c.entry.selector.selects b.civilDay && allows 0 then
        some (0, .cue ⟨.toll, bell, 0, b.towerDay, b.towerMinute⟩ interval count)
      else none
  | .light time scene =>
      if decide (p.lightMinute b.civilDay offset time = some b.civilMinute) && c.entry.selector.selects b.civilDay
          && allows 0 then
        some (0, .scene scene)
      else none
  | .silent _ _ => none
  | .offset m off =>
      if decide (b.towerMinute = m) && c.entry.selector.selects b.towerDay && allows 0 then some (0, .offset off) else none

/-- The work is a cue request. -/
def Work.isCue : Work → Bool
  | .cue _ _ _ => true
  | _ => false

/-- The work is an offset request. -/
def Work.isOffset : Work → Bool
  | .offset _ => true
  | _ => false

/-- Set last-fired record `i` of calendar slot `n` (R126). -/
def Programme.setFired (p : Programme) (n i : Nat) (f : LastFired) : Programme :=
  { p with calendar := p.calendar.modify n fun c => c.map fun c => { c with fired := c.fired.set i (some f) } }

/-- The offset entry whose latest firing moment lies latest at or before the present, within 366 days: slot, standard
minute, new offset (R133). -/
def daysBack (sel : Selector) (minute : Nat) (now : TowerTime) : Nat → Nat → Option Nat
  | _, 0 => none
  | k, fuel + 1 =>
      if sel.selects (daysBefore now.day k) && (decide (0 < k) || decide (minute * 60000000 ≤ now.us)) then some k
      else daysBack sel minute now (k + 1) fuel

/-- A firing moment found while reconciling (R133). -/
structure Firing where
  back : Nat
  minute : Nat
  slot : Nat
  offset : Nat
deriving DecidableEq, Repr

/-- The later of two firing moments; of equal ones the one found later, the higher slot (R133). -/
def laterFiring (best : Option Firing) (f : Firing) : Option Firing :=
  match best with
  | none => some f
  | some g =>
      if decide (f.back < g.back) || (decide (f.back = g.back) && decide (g.minute ≤ f.minute)) then some f else some g

/-- The latest firing moment among the OFFSET entries (R133). -/
def latestFiring (now : TowerTime) : List (Option CalendarSlot) → Nat → Option Firing → Option Firing
  | [], _, best => best
  | c :: rest, n, best =>
      let found := match c with
        | none => best
        | some s => match s.entry.work with
          | .offset m off => match daysBack s.entry.selector m now 0 367 with
            | some k => laterFiring best { back := k, minute := m, slot := n, offset := off }
            | none => best
          | _ => best
      latestFiring now rest (n + 1) found

/-! ## The note store (R115, R121) -/

/-- The tower bell is own on this station (R64, R116). -/
def StationBlock.isOwn (b : StationBlock) (bell : Nat) : Bool := b.channels.any fun c => decide (c.bell = some bell)

/-- The channel that drives a tower bell (R64). -/
def StationBlock.channelOf (b : StationBlock) (bell : Nat) : Option Nat :=
  b.channels.findIdx? fun c => decide (c.bell = some bell)

/-- The directory entry of a tune (R115). -/
def Programme.tune (p : Programme) (number : Nat) : Option Tune :=
  (p.tunes.find? fun t => decide (t.map (·.number) = some number)).join

/-- The index of a tune's directory entry. -/
def Programme.tuneIndex (p : Programme) (number : Nat) : Option Nat :=
  p.tunes.findIdx? fun t => decide (t.map (·.number) = some number)

/-- The own notes of a tune, in store order (R115). -/
def Programme.notesOf (p : Programme) (t : Tune) : List Note := (p.notes.drop t.first).take t.own

/-- Note `i` of a tune (R115). -/
def Programme.noteOf (p : Programme) (number i : Nat) : Option Note :=
  match p.tune number with
  | none => none
  | some t => if i < t.own then p.notes[t.first + i]? else none

/-- Compaction: the notes of a tune leave the store, and the tunes that stood after them move down (R121). -/
def Programme.compact (p : Programme) (t : Tune) : Programme :=
  { p with
    notes := p.notes.take t.first ++ p.notes.drop (t.first + t.own)
    tunes := p.tunes.map fun o => o.map fun u => if t.first + t.own ≤ u.first then { u with first := u.first - t.own } else u }

/-- A tune's notes are removed, its directory entry emptied and the store compacted (R121). -/
def Programme.removeTune (p : Programme) (number : Nat) : Programme :=
  match p.tune number, p.tuneIndex number with
  | some t, some i => { p.compact t with tunes := (p.compact t).tunes.set i none }
  | _, _ => p

end Sys2Proof.Machine
end

