-- ==== Sys2Proof/Machine/Lights.lean ====
section
/-! DEFINITION. The light circuits' operations (08_floodlights_and_the_supply_budget.md, 8.1 to 8.3). -/

namespace Sys2Proof.Machine

/-- The record of a circuit. -/
def Station.circuit (s : Station) (c : Nat) : Circuit := s.sup.circuits.getD c Circuit.cold

/-- The configured fields of a circuit (R155). -/
def Station.circuitCfg (s : Station) (c : Nat) : CircuitConfig :=
  s.cfg.circuits.getD c { light := none, inrush := 1, hold := 1, steady := 1, feedback := false }

/-- Replace the record of a circuit. -/
def Station.setCircuit (s : Station) (c : Nat) (x : Circuit) : Station :=
  { s with sup := { s.sup with circuits := s.sup.circuits.set c x } }

/-- When the feedback of a contactor command made now is checked: 500 ms later, where feedback is present (R162). -/
def Station.checkTime (s : Station) (c : Nat) : Option RunTime :=
  if (s.circuitCfg c).feedback then some (s.tb.run.plus (msCycles 500)) else none

/-- A circuit is switched on (R160). -/
def Station.switchOn (s : Station) (c : Nat) : Station :=
  (s.setCircuit c { s.circuit c with state := .waitingSupply, draw := .pending }).requestDraw c (s.circuitCfg c).inrush 150 false

/-- A circuit holds the one-at-a-time order (R159). -/
def Circuit.comingOn (x : Circuit) : Bool := decide (x.state = .waitingSupply) || decide (x.state = .starting)

/-- A circuit is dark and wanted (R159). -/
def Circuit.toLight (x : Circuit) : Bool := decide (x.state = .off) && x.wanted

/-- The next wanted circuit is switched on when none is coming on (R159). -/
def Station.lightNext (s : Station) : Station :=
  if s.sup.circuits.any Circuit.comingOn then s
  else match s.sup.circuits.findIdx? Circuit.toLight with
    | some c => s.switchOn c
    | none => s

/-- A circuit is switched off by a scene application, or by a fault (R161): the OPEN of a CLOSED contactor makes a feedback check
due, and a fault whose contactor stood OPEN leaves none (log 47). -/
def Station.switchOff (s : Station) (c : Nat) (wanted fault : Bool) : Station :=
  let x := s.circuit c
  let s' := s.setCircuit c
    { x with state := if fault then .faulted else .off, closed := false, wanted := wanted, startEnd := none,
             checkDue := if x.closed then s.checkTime c else if fault then none else x.checkDue,
             draw := .none, renewalDue := none }
  match x.draw with
  | .none => s'
  | .pending => s'.cancelDraw c
  | .live => s'.freeDraw c

/-- A tower light stands in a scene's set (11.4). -/
def inScene (lights : BitVec 32) (light : Nat) : Bool := lights.getLsbD (light - 1)

/-- The set of tower lights of a scene; scene 0 is empty (R157). -/
def Programme.sceneSet (p : Programme) (n : Nat) : BitVec 32 := if n = 0 then 0 else p.scenes.getD n 0

/-- A circuit is in the scene's own set (R159). -/
def Station.inOwnSet (s : Station) (lights : BitVec 32) (c : Nat) : Bool :=
  match (s.circuitCfg c).light with
  | none => false
  | some l => inScene lights l

/-- What an application does to one circuit: the table of R159. -/
def Station.applyTo (s : Station) (lights : BitVec 32) (c : Nat) : Station :=
  let x := s.circuit c
  let wanted := s.inOwnSet lights c
  match x.state with
  | .unused => s
  | .off | .faulted => s.setCircuit c { x with wanted := wanted }
  | .waitingSupply | .starting | .on =>
      if wanted then s.setCircuit c { x with wanted := true } else s.switchOff c false false

/-- A scene is put in force and applied (R157, R159), the circuits switched off in the order of their numbers (log 53). -/
def Station.applyScene (s : Station) (n : Nat) : Station :=
  let lights := s.pg.sceneSet n
  let s' : Station := { s with sup := { s.sup with scene := n } }
  ((((((s'.applyTo lights 0).applyTo lights 1).applyTo lights 2).applyTo lights 3).applyTo lights 4).applyTo lights 5).lightNext

/-- A calendar scene change (R157). -/
def Station.calendarScene (s : Station) (n : Nat) : Station :=
  ({ s with sup := { s.sup with override := false } } : Station).applyScene n

/-- A FAULTED circuit whose feedback shows the contactor open becomes OFF (R157). -/
def Station.recoverCircuit (s : Station) (c : Nat) : Station :=
  if decide ((s.circuit c).state = .faulted) && !s.showsClosed c then
    s.setCircuit c { s.circuit c with state := .off }
  else s

/-- A LIGHT_SCENE that is taken (R157). -/
def Station.panelScene (s : Station) (n : Nat) : Station :=
  let s' := (((((s.recoverCircuit 0).recoverCircuit 1).recoverCircuit 2).recoverCircuit 3).recoverCircuit 4).recoverCircuit 5
  ({ s' with sup := { s'.sup with override := true } } : Station).applyScene n

/-- A re-evaluation (R158). -/
def Station.reevaluate (s : Station) : Station :=
  if s.running && s.tb.valid && !s.sup.override then s.applyScene (s.pg.sceneAt s.tb.civil s.tb.offset) else s

/-- The report PLACED of a circuit's inrush draw (R160). -/
def Station.circuitPlaced (s : Station) (c : Nat) : Station :=
  if (s.circuit c).draw = .pending then
    s.setCircuit c { s.circuit c with
      state := .starting, closed := true, draw := .live,
      startEnd := some (s.tb.run.plus (secCycles (s.circuitCfg c).hold)), checkDue := s.checkTime c,
      renewalDue := some (s.tb.run.plus (secCycles 60)) }
  else s.freeDraw c

/-- The report PLACED of a circuit's increase (R160); the start end, passed, has stood until now (log 60). -/
def Station.circuitRaised (s : Station) (c : Nat) : Station :=
  if (s.circuit c).state = .starting then
    (s.setCircuit c { s.circuit c with state := .on, startEnd := none }).lightNext
  else s

/-- The start end of a circuit (R160): a decrease makes it ON at once, an increase is asked for, the start end standing until it
is placed (log 60). -/
def Station.endStart (s : Station) (c : Nat) : Station :=
  if (s.circuitCfg c).steady ≤ (s.circuitCfg c).inrush then
    ((s.setCircuit c { s.circuit c with state := .on, startEnd := none }).decreaseDraw c (s.circuitCfg c).steady 150).lightNext
  else s.requestDraw c (s.circuitCfg c).steady 150 true

/-- A feedback check (R162); while the circuit is FAULTED none is made, and one that falls due is let go (log 47). -/
def Station.checkFeedback (s : Station) (c : Nat) : Station :=
  if (s.circuit c).state = .faulted ∨ s.showsClosed c = (s.circuit c).closed then
    s.setCircuit c { s.circuit c with checkDue := none }
  else (s.switchOff c (s.circuit c).wanted true).lightNext

end Sys2Proof.Machine
end

