-- ==== Sys2Proof/Machine/Strike.lean ====
section
/-! DEFINITION. The strike unit's operations (04_bells_hammers_and_strike_queues.md): queues, the holder contest, launches,
returns and faults. Operations on one channel answer the new channel and the reports that reach performances. -/

namespace Sys2Proof.Machine

/-! ## Reports and replies -/

/-- What the strike unit reports to the performance that owns an entry or note (R73, R100). -/
inductive StrikeReport where
  | launched (lateness : Int) (sound : TowerTime)
  | droppedEntry
  | droppedNote
  | displaced (n : Nat)
  | yieldedNote
  | placed
  | fault (n : Nat)
  | stepRemoved (n : Nat)
deriving DecidableEq, Repr

/-- A report on its way to a performance slot, from a channel. -/
structure Notice where
  slot : Nat
  channel : Nat
  report : StrikeReport
deriving DecidableEq, Repr

/-- The replies to a feed request (R68). -/
inductive FeedReply where
  | taken
  | queued
  | displaced
  | waiting
  | yielded
  | full
  | slotOccupied
  | faulted
deriving DecidableEq, Repr

/-! ## Queue and holder (R66, R67) -/

/-- An entry goes after every entry of the same or an earlier target (R66). -/
def insertEntry (e : StrikeEntry) : List StrikeEntry → List StrikeEntry
  | [] => [e]
  | x :: rest => if x.target.diff e.target ≤ 0 then x :: insertEntry e rest else e :: x :: rest

/-- The holder is inside a phrase on the bell (R67). -/
def Channel.insidePhrase (c : Channel) : Bool := c.openPhrase || c.queue.any fun e => decide (e.phrase ≠ .none)

/-- A displacement of the holder may take effect (R67). -/
def Channel.mayDisplace (c : Channel) : Bool := !c.insidePhrase && !c.isProtected

/-- The report of an event to the holder, when it is a performance. -/
def Channel.tellHolder (c : Channel) (ch : Nat) (r : StrikeReport) : List Notice :=
  match c.holder with
  | .perf slot _ => [⟨slot, ch, r⟩]
  | _ => []

/-- The report of an event to the claimant of the waiting note. -/
def Channel.tellClaimant (c : Channel) (ch : Nat) (r : StrikeReport) : List Notice :=
  match c.waiting with
  | some w => [⟨w.slot, ch, r⟩]
  | none => []

/-- The waiting note's claimant becomes holder and its note is placed (R69). -/
def Channel.giveTo (c : Channel) (w : WaitingNote) : Channel :=
  { c with holder := .perf w.slot w.priority, openPhrase := false, isProtected := false, queue := [w.note], waiting := none }

/-- A pending displacement takes effect if it may (R69). A free bell goes to the claimant without a report to anyone else. -/
def Channel.settle (c : Channel) (ch : Nat) : Channel × List Notice :=
  match c.waiting with
  | none => (c, [])
  | some w =>
      if c.holder = .none then (c.giveTo w, [⟨w.slot, ch, .placed⟩])
      else if c.mayDisplace then
        (c.giveTo w, c.tellHolder ch (.displaced c.queue.length) ++ [⟨w.slot, ch, .placed⟩])
      else (c, [])

/-- Without a holder: no entries, no flags (R70). -/
def Channel.vacate (c : Channel) : Channel :=
  { c with holder := .none, openPhrase := false, isProtected := false, queue := [] }

/-- A PANEL holder with no PANEL entry left becomes none (R72, R80). -/
def Channel.dropPanel (c : Channel) : Channel :=
  if decide (c.holder = .panel) && c.queue.isEmpty then c.vacate else c

/-! ## Feed requests (R68) -/

/-- The displacement row of R68. -/
def Channel.displaceBy (c : Channel) (e : StrikeEntry) (slot prio : Nat) : Channel :=
  { c with holder := .perf slot prio, openPhrase := false, isProtected := false, queue := [e] }

/-- A feed on a channel whose holder is of lower priority, or PANEL: the last five rows of R68. -/
def Channel.contest (c : Channel) (ch : Nat) (e : StrikeEntry) (slot prio : Nat) : Channel × FeedReply × List Notice :=
  match c.waiting with
  | none =>
      if c.mayDisplace then (c.displaceBy e slot prio, .displaced, c.tellHolder ch (.displaced c.queue.length))
      else ({ c with waiting := some ⟨e, slot, prio⟩ }, .waiting, [])
  | some w =>
      if w.slot = slot then (c, .slotOccupied, [])
      else if prio < w.priority then
        ({ c with waiting := some ⟨e, slot, prio⟩ }, .waiting, c.tellClaimant ch .yieldedNote)
      else (c, .yielded, [])

/-- The strike unit acts on a feed request (R68). -/
def Channel.feed (c : Channel) (ch : Nat) (e : StrikeEntry) (slot prio : Nat) (regain : Bool) :
    Channel × FeedReply × List Notice :=
  if decide (c.state = .faulted) || decide (c.state = .unused) then (c, .faulted, [])
  else match c.holder with
    | .none =>
        ({ c with holder := .perf slot prio, isProtected := regain, queue := insertEntry e c.queue }, .taken, [])
    | .perf h p =>
        if h = slot then
          (if c.queue.length < 12 then ({ c with queue := insertEntry e c.queue }, .queued, []) else (c, .full, []))
        else if p ≤ prio then (c, .yielded, [])
        else c.contest ch e slot prio
    | .panel => c.contest ch e slot prio

/-! ## Release, clear, step (R70, R81) -/

/-- The claim of a performance that is not holder is withdrawn (R70). -/
def Channel.dropClaim (c : Channel) (slot : Nat) : Channel :=
  match c.waiting with
  | some w => if w.slot = slot then { c with waiting := none } else c
  | none => c

/-- A performance releases a bell (R70). -/
def Channel.release (c : Channel) (ch slot : Nat) : Channel × List Notice :=
  match c.holder with
  | .perf h _ => if h = slot then c.vacate.settle ch else (c.dropClaim slot, [])
  | _ => (c.dropClaim slot, [])

/-- The clear request on one channel (R70). -/
def Channel.clear (c : Channel) : Channel := { c.vacate with waiting := none }

/-- A step event on one channel (R81). -/
def Channel.stepRemove (c : Channel) (ch : Nat) : Channel × List Notice :=
  let told := (if c.queue.isEmpty then [] else c.tellHolder ch (.stepRemoved c.queue.length))
    ++ c.tellClaimant ch (.stepRemoved 1)
  if c.holder = .panel then (c.clear, told) else ({ c with queue := [], waiting := none }, told)

/-- A channel becomes FAULTED (R78). -/
def Channel.toFault (c : Channel) (ch : Nat) : Channel × List Notice :=
  ({ c.clear with state := .faulted, pulseEnd := none, pulseEnded := none, lostAt := none },
   c.tellHolder ch (.fault c.queue.length) ++ c.tellClaimant ch (.fault 1))

/-! ## Head entries: launch and late limits (R71, R72) -/

/-- The late limit of a class in microseconds, for the classes that have one (R72). -/
def LateClass.limit : LateClass → Option Int
  | .tune | .quarter => some 100000
  | .panel => some 500000
  | .toll | .hour => none

/-- The launch moment of an entry on a channel of that lead (R66). -/
def StrikeEntry.moment (e : StrikeEntry) (lead : Nat) : TowerTime := e.target.plus (-((lead * 1000 : Nat) : Int))

/-- The lateness so far passes the limit of the class (R72). -/
def LateClass.tooLate (l : LateClass) (late : Int) : Bool :=
  match l.limit with
  | none => false
  | some x => decide (x < late)

/-- The flags when the head leaves by a launch or by its late limit (R67). -/
def Channel.headGone (c : Channel) (e : StrikeEntry) (rest : List StrikeEntry) (launched : Bool) : Channel :=
  { c with queue := rest, isProtected := false,
           openPhrase := match e.phrase with
             | .start | .inside => launched || c.openPhrase
             | .none | .ends => false }

/-- Pulse width of a velocity (R64). -/
def ChannelConfig.width (k : ChannelConfig) (velocity : Nat) : Nat :=
  if velocity = 1 then k.width1 else if velocity = 2 then k.width2 else if velocity = 3 then k.width3 else k.width4

/-- The head entry launches its hammer (R71), with the changes of holder that follow. -/
def Channel.launch (c : Channel) (ch : Nat) (e : StrikeEntry) (rest : List StrikeEntry) (k : ChannelConfig) (run : RunTime)
    (late : Int) (sound : TowerTime) : Channel × List Notice :=
  let c1 := { c.headGone e rest true with
    state := .striking, lastLaunch := some run, pulseEnd := some (run.plus (msCycles (k.width e.velocity))), lostAt := none }
  let out := c1.dropPanel.settle ch
  (out.1, c.tellHolder ch (.launched late sound) ++ out.2)

/-- The head entry is removed by its late limit (R72), with the changes of holder that follow. -/
def Channel.dropHead (c : Channel) (ch : Nat) (e : StrikeEntry) (rest : List StrikeEntry) : Channel × List Notice :=
  let out := ((c.headGone e rest false).dropPanel).settle ch
  (out.1, c.tellHolder ch .droppedEntry ++ out.2)

/-! ## Channels of the station -/

/-- The record of a channel. -/
def Station.channel (s : Station) (ch : Nat) : Channel := s.channels.getD ch Channel.cold

/-- The configured fields of a channel (R64). -/
def Station.channelCfg (s : Station) (ch : Nat) : ChannelConfig :=
  s.cfg.channels.getD ch { bell := none, lead := 10, width1 := 10, width2 := 10, width3 := 10, width4 := 10, interval := 100 }

/-- Replace the record of a channel. -/
def Station.setChannel (s : Station) (ch : Nat) (c : Channel) : Station := { s with channels := s.channels.set ch c }

/-- The lateness so far of an entry on a channel: present tower time less its launch moment (R72). -/
def Station.latenessOf (s : Station) (ch : Nat) (e : StrikeEntry) : Int :=
  s.tb.now.diff (e.moment (s.channelCfg ch).lead)

/-- The lateness reported: zero when the launch moment was reached on this very cycle, that is when no more tick units lie
between it and now than the cycle gained (R71, log 25). -/
def Station.reportedLateness (s : Station) (ch : Nat) (e : StrikeEntry) : Int :=
  let late := s.latenessOf ch e
  if late * 512 + (s.tb.frac : Int) < (s.tb.lastGain : Int) then 0 else late

/-- The repeat interval since the last launch has passed (R71). -/
def Station.intervalPassed (s : Station) (ch : Nat) : Bool :=
  match (s.channel ch).lastLaunch with
  | none => true
  | some t => t.lasted s.tb.run (s.channelCfg ch).interval

/-- The head entry of a channel is due, its channel READY, its repeat interval passed and its late limit not passed: it
takes part in the order of R74. An entry placed after its launch moment is late from that moment, and past its limit it does
not launch (R71, R72, log 55). -/
def Station.mayLaunch (s : Station) (ch : Nat) : Bool :=
  match (s.channel ch).queue with
  | [] => false
  | e :: _ => decide (0 ≤ s.latenessOf ch e) && decide ((s.channel ch).state = .ready) && s.intervalPassed ch
      && !e.late.tooLate (s.latenessOf ch e)

/-- Channel `a` goes before channel `b` in the order of R74: the earlier target, or the lower channel number. -/
def Station.goesBefore (s : Station) (a b : Nat) : Bool :=
  match (s.channel a).queue, (s.channel b).queue with
  | x :: _, y :: _ => decide (x.target.diff y.target < 0) || (decide (x.target.diff y.target = 0) && decide (a < b))
  | _, _ => false

/-- The channels, by number. -/
def channelNumbers : List Nat := [0, 1, 2, 3, 4, 5, 6, 7]

/-- A free hammer slot is left for a channel after those that go before it (R74). -/
def Station.slotFree (s : Station) (ch : Nat) : Bool :=
  decide (s.slotsInUse + (channelNumbers.countP fun o => s.mayLaunch o && s.goesBefore o ch) < s.cfg.hammerSlots)

/-! ## Pulse, return and rest (R75 to R77) -/

/-- A SETTLING channel becomes READY when its sensor shows rest and the repeat interval has passed (R76). -/
def Station.settleReady (s : Station) (ch : Nat) : Station :=
  let c := s.channel ch
  if decide (c.state = .settling) && c.restTaken && c.rested && s.intervalPassed ch then
    s.setChannel ch { c with state := .ready, pulseEnded := none }
  else s

/-- A pulse ends (R75). -/
def Channel.endPulse (c : Channel) (run : RunTime) (rest : Bool) : Channel :=
  { c with state := .settling, pulseEnd := none, pulseEnded := some run, restTaken := rest, rested := rest, lostAt := none }

/-- A faulted channel is at rest again (R79). -/
def Channel.recheck (c : Channel) : Channel := { c with state := .ready, restTaken := true, rested := true, lostAt := none }

/-- A channel at the end of CHECKING (R82). -/
def Channel.checked (c : Channel) (rest : Bool) : Channel :=
  if rest then { c with state := .ready, restTaken := true, rested := true, lostAt := none }
  else { c.clear with state := .faulted }

end Sys2Proof.Machine
end

