-- ==== Sys2Proof/Machine/Perform.lean ====
section
/-! DEFINITION. The performance unit's operations (05_performances.md): records and keys, feeding, the strike unit's reports,
the hour, cues and halts, steps and civil jumps. -/

namespace Sys2Proof.Machine

/-! ## The table and the recent-key list (R85 to R87) -/

/-- The record in a slot. -/
def Station.record (s : Station) (slot : Nat) : Option Record := s.pf.table.getD slot none

/-- Replace the record in a slot. -/
def Station.setRecord (s : Station) (slot : Nat) (r : Option Record) : Station :=
  { s with pf := { s.pf with table := s.pf.table.set slot r } }

/-- The slot of the record with a key (R86). -/
def Performances.slotOf (p : Performances) (k : Key) : Option Nat :=
  p.table.findIdx? fun r => decide (r.map (·.key) = some k)

/-- A key is in the recent-key list (R87). -/
def Performances.isRecent (p : Performances) (k : Key) : Bool := p.recent.any fun e => decide (e.key = k)

/-- The lowest free shared slot (R86). -/
def Performances.freeSlot (p : Performances) : Option Nat :=
  ((p.table.drop 1).findIdx? (·.isNone)).map (· + 1)

/-- A key enters the recent-key list, the oldest of 8 leaving first (R87). -/
def Performances.addKey (p : Performances) (k : Key) (o : KeyOutcome) (run : RunTime) : Performances :=
  { p with recent := (if p.recent.length < 8 then p.recent else p.recent.drop 1) ++ [⟨k, o, run⟩] }

/-- The record strikes single strokes: HOUR or TOLL. -/
def Record.isStroke (r : Record) : Bool := decide (r.key.cls = .hour) || decide (r.key.cls = .toll)

/-- The mark of a record on a channel's bell (R85). -/
def Record.mark (r : Record) (ch : Nat) : BellMark := r.marks.getD ch .none

/-- Set the mark of a record on a channel's bell. -/
def Record.setMark (r : Record) (ch : Nat) (m : BellMark) : Record := { r with marks := r.marks.set ch m }

/-- The mark once a claim is gone (R100). -/
def BellMark.unclaimed : BellMark → BellMark
  | .claimed true => .held
  | .claimed false => .none
  | m => m

/-- A bell that a mark says the record holds (R85). -/
def BellMark.holds : BellMark → Bool
  | .held | .claimed _ => true
  | _ => false

/-- Tower microseconds of the feed window (R98). -/
def feedWindow : Int := 1500000

/-- The start less 1,500 ms has been reached (R97). -/
def Station.startNear (s : Station) (start : TowerTime) : Bool := s.tb.now.atOrAfter (start.plus (-feedWindow))

/-- The state in which a record plays: PLAYING, or ENDING at once without a part (R98). -/
def playState (hasPart : Bool) : PerfState := if hasPart then .playing else .ending

/-- The state a record of that start is made in (R90, R94, R97). -/
def Station.firstState (s : Station) (start : TowerTime) (hasPart : Bool) : PerfState :=
  if s.startNear start then playState hasPart else .cued

/-! ## The hour's watch (R104, R105) -/

/-- The key is of a quarter chime before the hour of that tower day and minute (R104). -/
def Key.isHourChime (k : Key) (day minute : Nat) : Bool :=
  decide (k.cls = .quarter) && decide (k.quarter = 4) && decide (k.day = day) && decide (k.minute = minute)

/-- A quarter chime before that hour stands in the table (R104). -/
def Performances.chimeStands (p : Performances) (day minute : Nat) : Bool :=
  p.table.any fun r => match r with
    | none => false
    | some x => x.key.isHourChime day minute

/-- A WAITING hour begins to strike, its first stroke so many microseconds ahead (R104). -/
def Station.beginHour (s : Station) (r : Record) (ahead : Nat) : Station :=
  s.setRecord 0 (some { r with
    state := .playing, start := s.tb.now.plus (ahead : Int), nextTarget := s.tb.now.plus (ahead : Int) })

/-- A chime of a key has left the table or been halted before its cue: a WAITING hour of that minute leaves WAITING when none
remains (R104 a). -/
def Station.watchHour (s : Station) (k : Key) : Station :=
  match s.record 0 with
  | none => s
  | some r =>
      if decide (r.state = .waiting) && k.isHourChime r.key.day r.key.minute && !s.pf.chimeStands r.key.day r.key.minute then
        s.beginHour r 2000000
      else s

/-! ## Release, abort, end (R70, R101, R108) -/

/-- The report PLACED reaches a slot (R100). -/
def Station.markPlaced (s : Station) (n : Notice) : Station :=
  match s.record n.slot with
  | none => s
  | some r => s.setRecord n.slot (some (r.setMark n.channel .held))

/-- A slot releases one bell (R70). -/
def Station.releaseBell (s : Station) (slot ch : Nat) : Station :=
  let out := (s.channel ch).release ch slot
  out.2.foldl Station.markPlaced (s.setChannel ch out.1)

/-- A record releases every bell it marks HELD or CLAIMED (R101, R108). -/
def Station.releaseBells (s : Station) (slot : Nat) (r : Record) : Station :=
  channelNumbers.foldl (fun t ch => if (r.mark ch).holds then t.releaseBell slot ch else t) s

/-- A record leaves the table with an outcome (R87, R101), and the hour's watch looks (R104). -/
def Station.leaveTable (s : Station) (slot : Nat) (r : Record) (o : KeyOutcome) : Station :=
  let s' := (s.releaseBells slot r).setRecord slot none
  ({ s' with pf := s'.pf.addKey r.key o s'.tb.run } : Station).watchHour r.key

/-- A record is aborted (R108). -/
def Station.abort (s : Station) (slot : Nat) : Station :=
  match s.record slot with
  | none => s
  | some r =>
      let s' := if r.frameState = .queued then (s.withdraw (Frame.isCueOf r.key)).1 else s
      s'.leaveTable slot r .aborted

/-! ## The strike unit's reports (R100, R102, R106) -/

/-- Fewer entries out (R100). -/
def Record.lessOut (r : Record) (n : Nat) : Record := { r with entriesOut := r.entriesOut - n }

/-- The next target one interval after the last (R102). -/
def Record.nextInterval (r : Record) : Record := { r with nextTarget := r.nextTarget.plus ((r.beat * 1000 : Nat) : Int) }

/-- The next target one interval after a tower time (R102, R106, R112). -/
def Record.intervalAfter (r : Record) (t : TowerTime) : Record := { r with nextTarget := t.plus ((r.beat * 1000 : Nat) : Int) }

/-- LAUNCHED reaches a record: a toll's or an hour's next stroke takes its target (R102, R106). -/
def Record.launched (r : Record) (late : Int) (sound : TowerTime) : Record :=
  match r.key.cls with
  | .hour => { (r.lessOut 1).intervalAfter sound with firstLaunched := true }
  | .toll => if late ≤ 1000000 then (r.lessOut 1).nextInterval else (r.lessOut 1).intervalAfter sound
  | .quarter | .tune => r.lessOut 1

/-- What a toll's stroke that ends without a launch does to its next target (R102). -/
def Record.strokeGone (r : Record) : Record := if r.isStroke then r.nextInterval else r

/-- A stroke removed by a step is fed again (R112). -/
def Record.strokeBack (r : Record) (now : TowerTime) : Record :=
  if r.isStroke then { r.intervalAfter now with cursor := r.cursor - 1, state := .playing } else r

/-- A notice reaches the record in its slot (R100). A toll's waiting note told YIELDED is a stroke gone (R102, log 32). -/
def Station.takeNotice (s : Station) (n : Notice) : Station :=
  match s.record n.slot with
  | none => s
  | some r =>
      match n.report with
      | .launched late sound =>
          let s' := if decide (r.key.cls = .hour) && !r.firstLaunched then
            { s with pf := { s.pf with lastHour := some s.tb.run } } else s
          s'.setRecord n.slot (some (r.launched late sound))
      | .droppedEntry => s.setRecord n.slot (some (r.lessOut 1).strokeGone)
      | .droppedNote | .yieldedNote =>
          s.setRecord n.slot (some ((r.lessOut 1).strokeGone.setMark n.channel (r.mark n.channel).unclaimed))
      | .displaced k =>
          let r' := (r.lessOut k).setMark n.channel .displaced
          s.setRecord n.slot (some (if 0 < k then r'.strokeGone else r'))
      | .placed => s.markPlaced n
      | .fault k =>
          let s' := s.setRecord n.slot (some ((r.lessOut k).setMark n.channel .faulted))
          if r.isStroke then s'.abort n.slot else s'
      | .stepRemoved k => s.setRecord n.slot (some ((r.lessOut k).strokeBack s.tb.now))

/-! ## Feeding (R97 to R99, R102, R106) -/

/-- Microseconds of a note's offset from the start (R97): offset16 × beat × 62.5, a half rounded up. -/
def noteDelay (offset16 beat : Nat) : Nat := (offset16 * beat * 125 + 1) / 2

/-- A reply that places the entry or the waiting note. -/
def FeedReply.out : FeedReply → Bool
  | .taken | .queued | .displaced | .waiting => true
  | _ => false

/-- The mark after a reply (R99). -/
def FeedReply.markAfter (reply : FeedReply) (m : BellMark) : BellMark :=
  match reply with
  | .taken | .queued | .displaced => .held
  | .waiting => .claimed (decide (m = .held))
  | .faulted => .faulted
  | .yielded | .full | .slotOccupied => m

/-- A record takes the reply to its feed request (R99). -/
def Record.takeReply (r : Record) (ch : Nat) (reply : FeedReply) : Record :=
  { r.setMark ch (reply.markAfter (r.mark ch)) with entriesOut := if reply.out then r.entriesOut + 1 else r.entriesOut }

/-- The strike unit's counters of replies (R68). -/
def Station.countReply (s : Station) : FeedReply → Station
  | .yielded => s.bump .yields
  | .full | .slotOccupied => s.bump .queueFullSkips
  | _ => s

/-- A feed request of a record (R98): the channel acts, and the reply and the notices come back. -/
def Station.feedRequest (s : Station) (slot ch : Nat) (r : Record) (target : TowerTime) (velocity : Nat) (phrase : Phrase) :
    Station × FeedReply × List Notice :=
  let e : StrikeEntry := { target := target, owner := .slot slot, velocity := velocity, phrase := phrase, late := r.key.cls.late }
  let out := (s.channel ch).feed ch e slot r.key.cls.priority (decide (r.mark ch = .displaced))
  ((s.setChannel ch out.1).countReply out.2.1, out.2.1, out.2.2)

/-- The cursor moves past a note; past the last, the record enters ENDING (R98). -/
def Station.pastNote (s : Station) (r : Record) : Record :=
  { r with cursor := r.cursor + 1,
           state := if (s.pg.noteOf r.key.number (r.cursor + 1)).isSome then r.state else .ending }

/-- A tune's or chime's note at the cursor is considered; none while its launch moment lies beyond the feed window (R98). -/
def Station.feedNote (s : Station) (slot : Nat) (r : Record) : Option (Station × List Notice) :=
  match s.pg.noteOf r.key.number r.cursor with
  | none => some (s.setRecord slot (some { r with state := .ending }), [])
  | some n => match s.cfg.channelOf n.bell with
    | none => some (s.setRecord slot (some (s.pastNote r)), [])
    | some ch =>
        let target := r.start.plus ((noteDelay n.offset r.beat : Nat) : Int)
        let ahead := (target.plus (-(((s.channelCfg ch).lead * 1000 : Nat) : Int))).diff s.tb.now
        if feedWindow < ahead then none
        else if decide (r.mark ch = .faulted) || decide (ahead < 0) then some (s.setRecord slot (some (s.pastNote r)), [])
        else
          let out := s.feedRequest slot ch r target n.velocity n.phrase
          some (out.1.setRecord slot (some (s.pastNote (r.takeReply ch out.2.1))), out.2.2)

/-- The bell of a toll or of the hour (R102, R106). -/
def Station.strokeBell (s : Station) (r : Record) : Option Nat :=
  match r.key.cls with
  | .hour => s.cfg.hourBell
  | _ => some r.key.number

/-- Once the last stroke of a count above 0 has been fed, skipped or yielded, the record is ENDING (R102, R106). -/
def Record.afterLast (r : Record) : Record := if 0 < r.length ∧ r.length ≤ r.cursor then { r with state := .ending } else r

/-- One more stroke counts; the last makes the record ENDING (R102, R106). -/
def Record.countStroke (r : Record) : Record := ({ r with cursor := r.cursor + 1 } : Record).afterLast

/-- A toll's or an hour's next stroke is considered, once the stroke before it has had its outcome (R102, R106). -/
def Station.feedStroke (s : Station) (slot : Nat) (r : Record) : Option (Station × List Notice) :=
  match (s.strokeBell r).bind s.cfg.channelOf with
  | none => none
  | some ch =>
      let ahead := (r.nextTarget.plus (-(((s.channelCfg ch).lead * 1000 : Nat) : Int))).diff s.tb.now
      if decide (r.entriesOut ≠ 0) || decide (feedWindow < ahead) then none
      else if decide (r.key.cls = .toll) && decide (ahead < 0) then
        some (s.setRecord slot (some r.countStroke.nextInterval), [])
      else
        let out := s.feedRequest slot ch r r.nextTarget s.cfg.velocity .none
        let r' := r.takeReply ch out.2.1
        if out.2.1 = .faulted then some ((out.1.setRecord slot (some r')).abort slot, out.2.2)
        else if out.2.1.out then some (out.1.setRecord slot (some r'.countStroke), out.2.2)
        else some (out.1.setRecord slot (some r'.countStroke.nextInterval), out.2.2)

/-- The next note or stroke of a slot is considered, if it is to be considered now (R98). -/
def Station.feedOne (s : Station) (slot : Nat) : Option (Station × List Notice) :=
  match s.record slot with
  | none => none
  | some r =>
      if decide (r.state = .playing) && r.hasPart then (if r.isStroke then s.feedStroke slot r else s.feedNote slot r) else none

/-- A slot holds a record of single strokes. -/
def Station.strokeSlot (s : Station) (slot : Nat) : Bool :=
  match s.record slot with
  | none => false
  | some r => r.isStroke

/-- Slots are considered in turn until nothing is left to consider now; reports reach their records at once, and a toll or hour
they reach is considered too (R98, R102, R106; log 21). -/
def Station.feedLoop : Nat → List Nat → Station → Station
  | 0, _, s => s
  | _ + 1, [], s => s
  | n + 1, slot :: rest, s =>
      match s.feedOne slot with
      | none => Station.feedLoop n rest s
      | some (s', notices) =>
          let t := notices.foldl Station.takeNotice s'
          Station.feedLoop n (slot :: (notices.map (·.slot)).filter t.strokeSlot ++ rest) t

/-- Feeding at once from some slots (R98). -/
def Station.feedNow (s : Station) (slots : List Nat) : Station := Station.feedLoop 2048 slots s

/-- Notices reach their records, and tolls and hours they reach feed at once (R100, R102, R106). -/
def Station.report (s : Station) (notices : List Notice) : Station :=
  let t := notices.foldl Station.takeNotice s
  t.feedNow ((notices.map (·.slot)).filter t.strokeSlot)

/-- Notices of a channel operation, with the channel it leaves. -/
def Station.channelEvent (s : Station) (ch : Nat) (out : Channel × List Notice) : Station :=
  (s.setChannel ch out.1).report out.2

/-- A channel becomes FAULTED (R78). -/
def Station.faultChannel (s : Station) (ch : Nat) : Station :=
  (s.raise .hammerFault).channelEvent ch ((s.channel ch).toFault ch)

/-! ## Making records (R90, R94, R96) -/

/-- A tempo value in its range (R96): a toll interval, or a beat; a heard CUE with beat 0 has the least (log 56). -/
def clampBeat (cls : PerfClass) (beat : Nat) : Nat := if cls = .toll then clamp 1000 60000 beat else clamp 150 2000 beat

/-- A length in its range (R96); a toll's count is taken as it is. -/
def clampLength (cls : PerfClass) (n : Nat) : Nat := if cls = .toll then n else clamp 1 4096 n

/-- Whether the station has a part (R96). -/
def Station.partIn (s : Station) (k : Key) : Bool :=
  match k.cls with
  | .hour => true
  | .toll => s.cfg.isOwn k.number
  | .quarter | .tune => match s.pg.tune k.number with
    | none => false
    | some t => decide (t.state ≠ .opened) && decide (0 < t.own)

/-- The end of a record (R85). -/
def endOf (cls : PerfClass) (hasPart : Bool) (start : TowerTime) (beat length : Nat) : Option TowerTime :=
  match cls with
  | .hour => none
  | .toll => if !hasPart && decide (0 < length) then some (start.plus ((length * beat * 1000 : Nat) : Int)) else none
  | .quarter | .tune => some (start.plus ((length * beat * 1000 : Nat) : Int))

/-- A toll, quarter or tune record as it is made (R85, R90, R94). -/
def Station.newRecord (s : Station) (k : Key) (start : TowerTime) (beat length : Nat) (o : Origin) (f : FrameState) : Record :=
  let b := clampBeat k.cls beat
  let n := clampLength k.cls length
  let part := s.partIn k
  { key := k, state := s.firstState start part, start := start, ends := endOf k.cls part start b n, beat := b, length := n,
    hasPart := part, cursor := 0, nextTarget := start, marks := List.replicate 8 .none, entriesOut := 0, origin := o,
    frameState := f, deadline1 := none, deadline2 := none, firstLaunched := false }

/-- A chime enters the table: an hour of its minute whose first stroke has not launched waits again (R105). -/
def Station.rewaitHour (s : Station) (k : Key) : Station :=
  match s.record 0 with
  | none => s
  | some r =>
      let open60 := match r.deadline2 with
        | none => false
        | some d => !d.reached s.tb.run
      if k.isHourChime r.key.day r.key.minute && !r.firstLaunched && open60 && decide (r.state ≠ .waiting) then
        (s.releaseBells 0 r).setRecord 0
          (some { r with state := .waiting, cursor := 0, entriesOut := 0, marks := List.replicate 8 .none })
      else s

/-- A record is placed in a slot (R90, R94), and the hour's watch looks (R105). -/
def Station.placeRecord (s : Station) (slot : Nat) (r : Record) : Station := (s.setRecord slot (some r)).rewaitHour r.key

/-- Milliseconds of a start offset on the line (R90); microseconds beyond the last whole one round by the free value (log 14). -/
def offsetMs (us : Nat) : Nat := us / 1000 + (if decide (us % 1000 ≠ 0) && Config.msRoundsUp us then 1 else 0)

/-- The frame of a local record is queued (R90 step 4). -/
def Station.sendCue (s : Station) (slot : Nat) (r : Record) : Station :=
  let off := (r.start.diff (TowerTime.ofMinute r.key.day r.key.minute)).toNat
  match s.enqueue (.cue r.key (offsetMs off) r.beat r.length) with
  | (s', true) => s'.setRecord slot (some { r with frameState := .queued })
  | (s', false) => s'.setRecord slot (some { r with frameState := .undelivered })

/-- A cue of this station that is not refused (R90): its outcome says whether it was a duplicate, or found the table full. -/
def Station.originate (s : Station) (k : Key) (start : TowerTime) (beat length : Nat) : Station × ReqOutcome :=
  if (s.pf.slotOf k).isSome || s.pf.isRecent k then (s.bump .duplicateCues, .state)
  else match s.pf.freeSlot with
    | none => (s.raise .tableFull, .full)
    | some slot =>
        let r := s.newRecord k start beat length .localCue .queued
        (((s.placeRecord slot r).sendCue slot r).feedNow [slot], .done)

/-- The tune of a key that may be played here: present and not OPEN (R89, R92). -/
def Station.playable (s : Station) (number : Nat) : Option Tune :=
  match s.pg.tune number with
  | none => none
  | some t => if t.state = .opened then none else some t

/-- A cue request of the programme store (R89); beat 0 is the tune's default beat (R123). -/
def Station.cueRequest (s : Station) (k : Key) (beat count : Nat) : Station :=
  let start := (TowerTime.ofMinute k.day k.minute).plus ((s.cfg.cueLead * 1000 : Nat) : Int)
  if s.pf.silenced || !s.running then s.bump .ignoredCues
  else if k.cls = .toll then (s.originate k start beat count).1
  else match s.playable k.number with
    | none => s.bump .ignoredCues
    | some t => (s.originate k start (if beat = 0 then t.beat else beat) t.length).1

/-- A local record adopts a heard cue whose own frame is out of the way (R95). -/
def Station.adopt (s : Station) (slot : Nat) (r : Record) (start : TowerTime) (beat length : Nat) : Station :=
  let b := clampBeat r.key.cls beat
  let n := clampLength r.key.cls length
  let r1 := { r with start := start, ends := endOf r.key.cls r.hasPart start b n, beat := b, length := n, frameState := .none }
  if decide (start = r.start) && decide (b = r.beat) then
    s.setRecord slot (some (if r.isStroke && r.hasPart && decide (r.state = .playing) then r1.afterLast else r1))
  else ((s.releaseBells slot r).setRecord slot
    (some { r1 with state := s.firstState start r.hasPart, cursor := 0, nextTarget := start, entriesOut := 0,
                    marks := List.replicate 8 .none })).feedNow [slot]

/-- A CUE that is taken (R94). -/
def Station.matchCue (s : Station) (k : Key) (start : TowerTime) (beat length : Nat) : Station :=
  match s.pf.slotOf k with
  | some slot => match s.record slot with
    | none => s
    | some r =>
        if decide (r.origin = .localCue) && decide (r.frameState = .queued) then
          (match s.withdraw (Frame.isCueOf k) with
           | (s', .inFlight) => s'.bump .duplicateCues
           | (s', _) => s'.adopt slot r start beat length)
        else if decide (r.origin = .localCue) && decide (r.frameState = .undelivered) then s.adopt slot r start beat length
        else s.bump .duplicateCues
  | none =>
      if s.pf.isRecent k then s.bump .duplicateCues
      else match s.pf.freeSlot with
        | none => s.raise .tableFull
        | some slot => (s.placeRecord slot (s.newRecord k start beat length .heard .none)).feedNow [slot]

/-- A CUE frame reaches the performance unit (R93, R193). -/
def Station.takeCue (s : Station) (p : List Byte) : Station :=
  let k := keyAt p 0
  if s.tb.valid && !s.pf.silenced && decide (k.cls ≠ .hour) && k.valid then
    s.matchCue k ((TowerTime.ofMinute k.day k.minute).plus ((word16 p 6 * 1000 : Nat) : Int)) (word16 p 8) (word16 p 10)
  else s.bump .ignoredCues

/-! ## Halts (R108 to R110) -/

/-- A HALT of scope KEY (R108). -/
def Station.haltKey (s : Station) (k : Key) : Station :=
  match s.pf.slotOf k with
  | some slot => (s.abort slot).feedNow [0]
  | none =>
      if s.pf.isRecent k then s
      else (({ s with pf := s.pf.addKey k .haltedBeforeCue s.tb.run } : Station).watchHour k).feedNow [0]

/-- A HALT of scope SILENCE (R109); the records go in the order of their slots (log 50). -/
def Station.silence (s : Station) : Station :=
  let s' := (((((s.abort 0).abort 1).abort 2).abort 3).abort 4).abort 5
  { s' with channels := s'.channels.map Channel.clear, pf := { s'.pf with silenced := true } }

/-- A HALT of scope RESUME (R110). -/
def Station.resume (s : Station) : Station := { s with pf := { s.pf with silenced := false } }

/-! ## The hour (R103, R104, R107) -/

/-- Strokes of a civil hour (R103). -/
def hourStrokes (h : Nat) : Nat := (h + 11) % 12 + 1

/-- The lead of the hour bell in microseconds (R104). -/
def Station.hourLead (s : Station) : Nat :=
  match s.cfg.hourBell.bind s.cfg.channelOf with
  | none => 0
  | some ch => (s.channelCfg ch).lead * 1000

/-- The hour record of a boundary (R103). -/
def Station.hourRecord (s : Station) (e : HourEvent) : Record :=
  { key := ⟨.hour, 0, 0, e.towerDay, e.towerMinute⟩, state := .waiting, start := TowerTime.ofMinute e.towerDay e.towerMinute,
    ends := none, beat := s.cfg.hourInterval, length := hourStrokes e.civilHour, hasPart := true, cursor := 0,
    nextTarget := TowerTime.ofMinute e.towerDay e.towerMinute, marks := List.replicate 8 .none, entriesOut := 0,
    origin := .localCue, frameState := .none,
    deadline1 := some (s.tb.run.plus (msCycles (s.cfg.cueLead + 1000))),
    deadline2 := some (s.tb.run.plus (secCycles 60)), firstLaunched := false }

/-- The last hour strike lies less than 3,000 s back (R103). -/
def Station.struckLately (s : Station) : Bool :=
  match s.pf.lastHour with
  | none => false
  | some t => decide (t.elapsed s.tb.run < secCycles 3000)

/-- The hour boundary is suppressed and counted (R103). -/
def Station.suppressesHour (s : Station) (e : HourEvent) : Bool :=
  s.pg.silentAt e.civilDay (e.civilHour * 60) || s.struckLately || (s.record 0).isSome
    || s.pf.isRecent ⟨.hour, 0, 0, e.towerDay, e.towerMinute⟩

/-- Some quarter chime before that hour stands in the recent-key list (R104). -/
def Performances.chimeRecent (p : Performances) (day minute : Nat) : Bool := p.recent.any fun e => e.key.isHourChime day minute

/-- An hour boundary reaches the performance unit (R103); a chime already in the recent-key list ends the wait at once
(R104 a, log 18). A silenced station and one without valid time count nothing, whatever else holds (log 49). -/
def Station.strikeHour (s : Station) (e : HourEvent) : Station :=
  if (s.cfg.hourBell.map s.cfg.isOwn).getD false = false || s.pf.silenced || !s.tb.valid then s
  else if s.suppressesHour e then s.bump .suppressedHours
  else
    let r := s.hourRecord e
    let s' := s.setRecord 0 (some r)
    if s.pf.chimeRecent e.towerDay e.towerMinute && !s.pf.chimeStands e.towerDay e.towerMinute then
      (s'.beginHour r 2000000).feedNow [0]
    else s'

/-- The latest civil hour boundary is made up when it lies 300 s or less back, and within the microseconds that civil time has
gained, so that it lies after the old civil time (R107); RUNNING entry takes no old time. -/
def Station.makeUpHour (s : Station) (gained : Option Int) : Station :=
  let c := s.tb.civil
  let b : TowerTime := { day := c.day, us := c.us / 3600000000 * 3600000000 }
  let after := match gained with
    | none => true
    | some g => decide (((c.us - b.us : Nat) : Int) < g)
  if after && decide (c.us - b.us ≤ 300000000) then
    let t := b.plus (-((s.tb.offset * 60000000 : Nat) : Int))
    s.strikeHour { civilHour := b.us / 3600000000, civilDay := b.day, towerDay := t.day, towerMinute := t.minute }
  else s

/-! ## Steps and civil jumps (R112, R113) -/

/-- A tune or chime that a step or jump aborts (R112). -/
def Record.abortsOnStep (r : Record) : Bool :=
  !r.isStroke && (decide (r.state = .cued) || decide (r.state = .playing))

/-- A silent toll without an end, past its start: a step or a jump aborts it (R96, log 44). -/
def Record.endlessSilence (r : Record) : Bool :=
  decide (r.key.cls = .toll) && !r.hasPart && decide (r.length = 0)
    && (decide (r.state = .playing) || decide (r.state = .ending))

/-- A step event reaches the record in a slot (R96, R112). -/
def Station.stepRecord (s : Station) (slot : Nat) : Station :=
  match s.record slot with
  | none => s
  | some r =>
      if r.abortsOnStep then (s.abort slot).bump .stepAborts
      else if r.endlessSilence then s.abort slot
      else if r.isStroke && decide (r.state = .playing) && decide (r.entriesOut = 0) then
        s.setRecord slot (some (r.intervalAfter s.tb.now))
      else s

/-- A civil jump event reaches the record in a slot (R96, R113); a toll still CUED is re-based too (log 19). -/
def Station.jumpRecord (s : Station) (slot : Nat) : Station :=
  match s.record slot with
  | none => s
  | some r =>
      if r.abortsOnStep then (s.abort slot).bump .stepAborts
      else if r.endlessSilence then s.abort slot
      else if r.isStroke && (decide (r.state = .playing) || decide (r.state = .cued)) && decide (r.entriesOut = 0) then
        s.setRecord slot (some (r.intervalAfter s.tb.now))
      else s

/-- The performance slots. -/
def performanceSlots : List Nat := [0, 1, 2, 3, 4, 5]

/-- A step event reaches the performance unit (R107, R112), the records in the order of their slots (log 50). -/
def Station.performStep (s : Station) (size : Int) : Station :=
  let s1 := performanceSlots.foldl Station.stepRecord s
  let s2 := if 0 < size then s1.makeUpHour (some size) else s1
  s2.feedNow (performanceSlots.filter s2.strokeSlot)

/-- A civil jump event reaches the performance unit (R107, R113), the records in the order of their slots (log 50). -/
def Station.performJump (s : Station) (oldOffset : Nat) : Station :=
  let s1 := performanceSlots.foldl Station.jumpRecord s
  let s2 := if oldOffset < s1.tb.offset then s1.makeUpHour (some (((s1.tb.offset - oldOffset) * 60000000 : Nat) : Int)) else s1
  s2.feedNow (performanceSlots.filter s2.strokeSlot)

/-- A step event reaches the strike unit: every unlaunched entry and waiting note is removed and reported (R81). -/
def Station.strikeStep (s : Station) : Station :=
  channelNumbers.foldl (fun t ch =>
    let out := (t.channel ch).stepRemove ch
    out.2.foldl Station.takeNotice (t.setChannel ch out.1)) s

end Sys2Proof.Machine
end

