-- ==== Sys2Proof/Machine/Events.lean ====
section
/-! DEFINITION. Step events and civil jump events and what the blocks do on them (R9 to R11), and the calendar scan, the walks
and the reconciliation (R126 to R133). -/

namespace Sys2Proof.Machine

/-! ## What is due at a boundary (R126) -/

/-- The entries due at a boundary: slot, last-fired record and work, in slot order (R126). -/
def dueAt (p : Programme) (cueCapable : Bool) (offset : Nat) (now : RunTime) (b : MinuteEvent) :
    Nat → List (Option CalendarSlot) → List (Nat × Nat × Work)
  | _, [] => []
  | n, c :: rest =>
      match c.bind fun s => s.due p cueCapable offset now b with
      | some (i, w) => (n, i, w) :: dueAt p cueCapable offset now b (n + 1) rest
      | none => dueAt p cueCapable offset now b (n + 1) rest

/-- The entries due at a boundary under the offset in force (R126). -/
def Station.due (s : Station) (b : MinuteEvent) : List (Nat × Nat × Work) :=
  dueAt s.pg s.cfg.cueCapable s.tb.offset s.tb.run b 0 s.pg.calendar

/-- An entry's last-fired record takes the present run time and a civil minute (R126). -/
def Station.fire (s : Station) (civilMinute : Nat) (d : Nat × Nat × Work) : Station :=
  { s with pg := s.pg.setFired d.1 d.2.1 { run := s.tb.run, minute := civilMinute } }

/-- A boundary walked: the cue entries that would fire there are counted (R131). -/
def Station.countSkipped (s : Station) (b : MinuteEvent) : Station :=
  s.bumpBy .skippedEntries ((s.due b).countP fun d => d.2.2.isCue)

/-- The scan mark takes the tower minute of a time (R126, R131, R132). -/
def Station.markScan (s : Station) (t : TowerTime) : Station :=
  { s with pg := { s.pg with scanMark := some (t.day, t.minute) } }

/-- The latest minute boundary at or before a time. -/
def TowerTime.floorMinute (t : TowerTime) : TowerTime := TowerTime.ofMinute t.day t.minute

/-- One minute later. -/
def TowerTime.nextMinute (t : TowerTime) : TowerTime := t.plus 60000000

/-! ## Civil jumps (R11, R131) -/

/-- The civil minutes passed over by a jump are walked from `t` on, `n` of them (R131). -/
def Station.walkCivil (s : Station) (tower : TowerTime) : TowerTime → Nat → Station
  | _, 0 => s
  | t, n + 1 =>
      (s.countSkipped ⟨t.nextMinute.day, t.nextMinute.minute, tower.day, tower.minute⟩).walkCivil tower t.nextMinute n

/-- A civil jump event reaches the programme store (R131). -/
def Station.programmeJump (s : Station) (oldOffset : Nat) : Station :=
  if s.running && s.tb.valid && decide (oldOffset < s.tb.offset) then
    (s.walkCivil s.tb.now (s.tb.now.civil oldOffset).floorMinute (s.tb.offset - oldOffset)).markScan s.tb.now
  else s

/-- A civil jump event reaches the four blocks, in one order (R11, log 10). -/
def Station.civilJump (s : Station) (oldOffset : Nat) : Station :=
  if s.running then ((s.performJump oldOffset).programmeJump oldOffset).evaluateDials.reevaluate else s

/-- An offset request (R11). -/
def Station.requestOffset (s : Station) (offset : Nat) : Station :=
  if offset = s.tb.offset then s
  else ({ s with tb := { s.tb with offset := offset } } : Station).civilJump s.tb.offset

/-! ## The minute scan (R126) -/

/-- The work of an entry is handed on (R126). -/
def Station.handOn (s : Station) : Work → Station
  | .cue k beat count => s.cueRequest k beat count
  | .scene n => s.calendarScene n
  | .offset m => s.requestOffset m

/-- The scan of a civil minute boundary (R126): OFFSET entries hand on last, and the scan mark is set before they do. -/
def Station.scanMinute (s : Station) (b : MinuteEvent) : Station :=
  let due := s.due b
  let s1 := due.foldl (fun t d => t.fire b.civilMinute d) s
  let s2 := (due.filter fun d => !d.2.2.isOffset).foldl (fun t d => t.handOn d.2.2) s1
  let s3 : Station := { s2 with pg := { s2.pg with scanMark := some (b.towerDay, b.towerMinute) } }
  (due.filter fun d => d.2.2.isOffset).foldl (fun t d => t.handOn d.2.2) s3

/-! ## Walking a span, reconciling (R132, R133) -/

/-- One tower minute boundary of a walk: cues are counted, OFFSET entries fire (R132). -/
def Station.walkMinute (s : Station) (t : TowerTime) : Station :=
  let c := t.civil s.tb.offset
  let b : MinuteEvent := ⟨c.day, c.minute, t.day, t.minute⟩
  ((s.due b).filter fun d => d.2.2.isOffset).foldl (fun u d => (u.fire b.civilMinute d).handOn d.2.2) (s.countSkipped b)

/-- The minute boundaries after `t` are walked, `n` of them (R132). -/
def Station.walkSpan (s : Station) : TowerTime → Nat → Station
  | _, 0 => s
  | t, n + 1 => (s.walkMinute t.nextMinute).walkSpan t.nextMinute n

/-- The offset is reconciled (R133); the civil minute recorded as fired is a free value (log 15), and the civil jump that follows
is walked and counted (R131, log 51). -/
def Station.reconcile (s : Station) : Station :=
  match latestFiring s.tb.now s.pg.calendar 0 none with
  | none => s
  | some f =>
      (s.fire (Config.reconciledMinute f.minute s.tb.offset) (f.slot, 0, .offset f.offset)).requestOffset f.offset

/-- Minute boundaries after `old`, up to and including `new`, by the signed difference (R133). -/
def minutesBetween (old new : TowerTime) : Int := (new.floorMinute.diff old.floorMinute) / 60000000

/-- Minute boundaries that a step of so many microseconds passes over (R132), counted from the step and not from the two times:
the longest steps of R9 end 32,768 day numbers on, where the signed difference is negative. -/
def minutesStepped (old : TowerTime) (size : Int) : Int := ((old.us : Int) + size) / 60000000 - (old.us : Int) / 60000000

/-- A span of so many boundaries is walked, or reconciled when it covers more than 1,440 (R132, R133). -/
def Station.catchUpSpan (s : Station) (old : TowerTime) (n : Int) : Station :=
  if n ≤ 1440 then s.walkSpan old.floorMinute n.toNat else s.reconcile

/-- A step event reaches the programme store (R132). -/
def Station.programmeStep (s : Station) (old : TowerTime) (size : Int) : Station :=
  if s.running && s.tb.valid then
    match s.pg.scanMark with
    | none => s.reconcile.markScan s.tb.now
    | some _ => if 0 < size then (s.catchUpSpan old (minutesStepped old size)).markScan s.tb.now else s
  else s

/-- The programme store at RUNNING entry (R133). -/
def Station.programmeEntry (s : Station) : Station :=
  if s.tb.valid then
    (match s.pg.scanMark with
     | none => s.reconcile
     | some m =>
         let n := minutesBetween (TowerTime.ofMinute m.1 m.2) s.tb.now
         if 0 < n then s.catchUpSpan (TowerTime.ofMinute m.1 m.2) n else s).markScan s.tb.now
  else s

/-! ## Mark moments (R21) -/

/-- The mark moment in a tower second, if one is there (R21). -/
def StationBlock.markIn (b : StationBlock) (day second : Nat) : Option TowerTime :=
  if second % b.markPeriod = b.number * b.markPeriod * 62500 / 1000000 then
    some { day := day, us := second * 1000000 + b.number * b.markPeriod * 62500 % 1000000 }
  else none

/-- The mark moment in a local second, for a station whose time is unset (R21). -/
def StationBlock.markInRun (b : StationBlock) (sec : Nat) : Option RunTime :=
  if sec % b.markPeriod = b.number * b.markPeriod * 2048 / Config.cyclesPerSecond then
    some { sec := sec, cyc := b.number * b.markPeriod * 2048 % Config.cyclesPerSecond }
  else none

/-- The mark moment that remains in the tower second in progress, or, with the time unset, in the local second in progress
(R21). -/
def Station.markAhead (s : Station) : Option MarkMoment :=
  if s.tb.valid then
    (match s.cfg.markIn s.tb.day (s.tb.us / 1000000) with
     | none => none
     | some m => if 0 < m.diff s.tb.now then some (.tower m) else none)
  else
    (match s.cfg.markInRun s.tb.run.sec with
     | none => none
     | some t => if s.tb.run.cyc < t.cyc then some (.run t) else none)

/-- A mark moment that remains in the second in progress is armed, on a step and at RUNNING entry (R21, R42). -/
def Station.lookForMark (s : Station) : Station :=
  if s.running then { s with ag := { s.ag with armed := s.markAhead } } else s

/-! ## Steps (R9, R10) -/

/-- The time base's step with its flag and its counter (R9). -/
def Station.stepTime (s : Station) (delta : Int) : Station :=
  (({ s with tb := s.tb.step delta } : Station).raise .timeStep).bump .steps

/-- A step event reaches the agreement unit (R10, R22). -/
def Agreement.stepped1 (a : Agreement) : Agreement :=
  { a with rateRem := 0, prevMark := none, stepped := true, steppedInAttempt := true, armed := none }

/-- A step of a signed size, with its deliveries to the six blocks in one order (R9, R10, log 10). -/
def Station.applyStep (s : Station) (delta : Int) : Station :=
  let old := s.tb.now
  let s1 := s.stepTime delta
  let s2 := ({ s1 with ag := s1.ag.stepped1 } : Station).lookForMark.strikeStep
  let s3 := if s2.running then s2.performStep delta else s2
  (s3.programmeStep old delta).evaluateDials.reevaluate

end Sys2Proof.Machine
end

