-- ==== Sys2Proof/Machine/Agreement.lean ====
section
/-! DEFINITION. The agreement unit's operations (02_keeping_stations_in_agreement.md): the peer table, source selection, the
discipline update and the reference. -/

namespace Sys2Proof.Machine

/-! ## Candidates and sources (R27, R28) -/

/-- The entry of a peer. -/
def Station.peer (s : Station) (n : Nat) : Option Peer := s.ag.peers.getD n none

/-- A present entry is a candidate (R27). -/
def isCandidate (own n : Nat) (p : Peer) : Bool := decide (p.stratum ≤ 6) && decide (p.followed ≠ some own) && decide (n ≠ own)

/-- The pair of a candidate lies below (6, own station number) (R27). -/
def belowOwn (own n : Nat) (p : Peer) : Bool := decide (p.stratum < 6) || (decide (p.stratum = 6) && decide (n < own))

/-- A station accepts a candidate: any, while its time is unset (R27). -/
def Station.accepts (s : Station) (n : Nat) (p : Peer) : Bool :=
  isCandidate s.cfg.number n p && (!s.tb.valid || belowOwn s.cfg.number n p)

/-- The lowest pair among the candidates from entry `n` on: lowest stratum, then lowest number (R27). -/
def bestFrom (own : Nat) : Nat → List (Option Peer) → Option (Nat × Peer)
  | _, [] => none
  | n, e :: rest =>
      match e with
      | none => bestFrom own (n + 1) rest
      | some p =>
          if isCandidate own n p then
            match bestFrom own (n + 1) rest with
            | none => some (n, p)
            | some (m, b) => if b.stratum < p.stratum then some (m, b) else some (n, p)
          else bestFrom own (n + 1) rest

/-- The best candidate (R27). -/
def Station.best (s : Station) : Option (Nat × Peer) := bestFrom s.cfg.number 0 s.ag.peers

/-- The number of the best candidate, when the station accepts it. -/
def Station.bestAccepted (s : Station) : Option Nat :=
  match s.best with
  | none => none
  | some (n, p) => if s.accepts n p then some n else none

/-- The station is in holdover (R30). -/
def Station.inHoldover (s : Station) : Bool :=
  s.tb.valid && decide (s.ag.followed = none) && decide (s.ag.refState ≠ .locked)

/-- HOLDOVER is set when the station is in holdover (R30). -/
def Station.noteHoldover (s : Station) : Station := if s.inHoldover then s.raise .holdover else s

/-- A switch (R28): R becomes 0 and the previous-mark record empty. -/
def Agreement.switch (a : Agreement) (source : Option Nat) : Agreement :=
  { a with followed := source, rateRem := 0, prevMark := none }

/-- A switch of the station, with the holdover it may enter (R28, R30). -/
def Station.switchTo (s : Station) (source : Option Nat) : Station :=
  ({ s with ag := s.ag.switch source } : Station).noteHoldover

/-- The previous-mark record of a MARK or minute whose rate update did not run (R33). -/
def Station.beginRecord (s : Station) (source : Source) (run : RunTime) : Station :=
  { s with ag := { s.ag with prevMark := some { source := source, run := run, tau := none } } }

/-- A candidate is accepted by a station whose time is unset: it steps by the offset and follows (R29). -/
def Station.acquire (s : Station) (n : Nat) (p : Peer) : Station :=
  ((({ s with ag := s.ag.switch (some n) } : Station).applyStep p.theta).beginRecord (.station n) p.markRun)

/-- Source selection (R28); the answer says whether it acquired the time of a station whose time was unset. -/
def Station.select (s : Station) : Station × Bool :=
  if s.ag.refState = .locked then (s, false)
  else match s.ag.followed with
    | none =>
        if s.tb.valid then
          (match s.bestAccepted with
           | none => (s, false)
           | some n => (s.switchTo (some n), false))
        else
          (match s.best with
           | none => (s, false)
           | some (n, p) => (s.acquire n p, true))
    | some f =>
        match s.peer f with
        | none => (s.switchTo s.bestAccepted, false)
        | some e =>
            if s.accepts f e then
              (match s.best with
               | none => (s, false)
               | some (n, p) => if p.stratum < e.stratum then (s.switchTo (some n), false) else (s, false))
            else (s.switchTo s.bestAccepted, false)

/-! ## The discipline update (R31 to R35) -/

/-- Whole seconds between two run times, rounded to nearest, halves up (R33). -/
def tauOf (old now : RunTime) : Nat := (old.elapsed now + 16384) / 32768

/-- The rate update (R34): dividend, quotient and remainder by truncated division. -/
def rateDividend (theta rem : Int) (tauPrev : Option Nat) (tau : Nat) : Int :=
  theta * 250 + (if tauPrev = some tau then rem else 0)

/-- The rate takes its change, clamped (R34, R35). -/
def Station.updateRate (s : Station) (theta : Int) (tauPrev : Option Nat) (tau : Nat) : Station :=
  let d := rateDividend theta s.ag.rateRem tauPrev tau
  let rate := s.tb.rate + d.tdiv tau
  if rate < -200000 ∨ 200000 < rate then
    ({ s with tb := { s.tb with rate := clampInt (-200000) 200000 rate }, ag := { s.ag with rateRem := 0 } } : Station).raise
      .rateLimit
  else { s with tb := { s.tb with rate := rate }, ag := { s.ag with rateRem := d.tmod tau } }

/-- The τ with which the rate update runs, if it runs (R33). -/
def Agreement.rateTau (a : Agreement) (source : Source) (run : RunTime) (markStepped : Bool) : Option (Option Nat × Nat) :=
  match a.prevMark with
  | none => none
  | some m =>
      let tau := tauOf m.run run
      if decide (m.source = source) && !markStepped && decide (1 ≤ tau) && decide (tau ≤ 255) then some (m.tau, tau) else none

/-- An offset below two seconds: slew addition, rate update, record (R32, R33). -/
def Station.slewBy (s : Station) (source : Source) (theta : Int) (run : RunTime) (markStepped : Bool) : Station :=
  let s' : Station := { s with tb := s.tb.addSlew theta }
  match s.ag.rateTau source run markStepped with
  | none => s'.beginRecord source run
  | some (prev, tau) =>
      let t := s'.updateRate theta prev tau
      { t with ag := { t.ag with prevMark := some { source := source, run := run, tau := some tau } } }

/-- The discipline update (R31). -/
def Station.discipline (s : Station) (source : Source) (theta : Int) (run : RunTime) (markStepped : Bool) : Station :=
  if !s.tb.valid || decide (2000000 ≤ theta) || decide (theta ≤ -2000000) then
    (s.applyStep theta).beginRecord source run
  else s.slewBy source theta run markStepped

/-! ## MARKs (R23, R24, R41) -/

/-- The peer table entry a MARK makes (R23, R24). -/
def peerOf (m : MarkFields) (c : Capture) : Peer :=
  { stratum := if m.valid then m.stratum else 7, followed := m.followed, valid := m.valid, locked := m.locked,
    stepped := m.stepped, markRun := c.run, theta := (TowerTime.mk m.day m.us).diff c.time }

/-- The entry of a peer is replaced (R24). -/
def Station.setPeer (s : Station) (n : Nat) (p : Option Peer) : Station :=
  { s with ag := { s.ag with peers := s.ag.peers.set n p } }

/-- A MARK taken in RUNNING: table, selection, discipline (R24). -/
def Station.markRunning (s : Station) (n : Nat) (p : Peer) : Station :=
  let out := (s.setPeer n (some p)).select
  if !out.2 && decide (out.1.ag.followed = some n) && decide (out.1.ag.refState ≠ .locked) then
    out.1.discipline (.station n) p.theta p.markRun p.stepped
  else out.1

/-- A MARK taken in LISTENING: table, and acquisition when it is usable (R41); after any other the source selection runs, as
after every MARK (R24, R28, log 33). -/
def Station.markListening (s : Station) (n : Nat) (p : Peer) : Station × Bool :=
  let s' := s.setPeer n (some p)
  if decide (s'.ag.refState ≠ .locked) && s'.accepts n p then
    if s'.tb.valid then
      (({ s' with ag := if s'.ag.followed = some n then s'.ag else s'.ag.switch (some n) } : Station).discipline
        (.station n) p.theta p.markRun p.stepped, true)
    else (s'.acquire n p, true)
  else ((s'.select).1, false)

/-! ## The reference (R36 to R39) -/

/-- A reference message is good (R36): its fields as listed take six bytes, where R36 and 11.5 count five (log 39). -/
def messageGood (bytes : List Byte) (framed : Bool) : Bool :=
  framed && decide (bytes.length = 6) && decide (byteAt bytes 0 = 180)
    && decide ((bytes.map (·.toNat)).sum % 256 = 0) && decide (word16 bytes 3 < 1440)

/-- The reference time of a minute (R37). -/
def RefMinute.time (m : RefMinute) : TowerTime := TowerTime.ofMinute m.day m.minute

/-- A pulse interval is `k` minutes within ±327 cycles (R38, R39). -/
def intervalIs (k cycles : Nat) : Bool := decide (k * 1966080 ≤ cycles + 327) && decide (cycles ≤ k * 1966080 + 327)

/-- The minute that a pulse makes valid, from a message that ended 200 to 900 ms before it (R37). -/
def RefMessage.minuteAt (m : RefMessage) (run : RunTime) : Option RefMinute :=
  if m.ended.lasted run 200 && !m.ended.exceeds run 900 then some { day := m.day, minute := m.minute, run := run } else none

/-- A minute locks after a candidate (R38). -/
def RefMinute.locksAfter (m c : RefMinute) : Bool :=
  decide (m.time.diff c.time = 60000000) && intervalIs 1 (c.run.elapsed m.run)

/-- A minute is accepted after the last accepted one (R39). -/
def RefMinute.acceptedAfter (m last : RefMinute) : Bool :=
  (decide (m.time.diff last.time = 60000000) && intervalIs 1 (last.run.elapsed m.run))
    || (decide (m.time.diff last.time = 120000000) && intervalIs 2 (last.run.elapsed m.run))

/-- A valid minute is taken (R38, R39); the answer says whether it is a lock or an accepted minute. -/
def Station.takeMinute (s : Station) (m : RefMinute) : Station × Bool :=
  let theta := m.time.diff s.tb.now
  match s.ag.refState with
  | .absent => (s, false)
  | .searching =>
      let locks := match s.ag.candidate with
        | none => false
        | some c => m.locksAfter c
      if locks then
        (({ s with ag := { s.ag.switch none with refState := .locked, candidate := none, lastMinute := some m } } : Station).discipline
          .reference theta m.run false, true)
      else ({ s with ag := { s.ag with candidate := some m } }, false)
  | .locked =>
      let ok := match s.ag.lastMinute with
        | none => false
        | some l => m.acceptedAfter l
      if ok then
        (({ s with ag := { s.ag with lastMinute := some m } } : Station).discipline .reference theta m.run false, true)
      else (s, false)

/-- The reference falls out of LOCKED (R39). -/
def Station.loseReference (s : Station) : Station :=
  let s' := ({ s with ag := { s.ag with refState := .searching, candidate := none, lastMinute := none } } : Station).raise .refLost
  s'.switchTo s'.bestAccepted

end Sys2Proof.Machine
end

