-- ==== Sys2Proof/Machine/Loading.lean ====
section
/-! DEFINITION. The configuration memory's blocks (11.4): the station block as it is read (R179), the programme blocks as they
are read (R137) and as STORE writes them (R135). -/

namespace Sys2Proof.Machine

/-! ## Blocks and check words (11.4, R192) -/

/-- A block with its check word: the first address, and the bytes before the check word (11.4). -/
structure Block where
  base : Nat
  length : Nat
deriving DecidableEq, Repr

/-- The station block (11.4). -/
def stationBlock : Block := ⟨0, 135⟩

/-- The tune block (11.4). -/
def tuneBlock : Block := ⟨256, 8834⟩

/-- The calendar block (11.4). -/
def calendarBlock : Block := ⟨9216, 1344⟩

/-- The dusk block (11.4). -/
def duskBlock : Block := ⟨10752, 92⟩

/-- The scene block (11.4). -/
def sceneBlock : Block := ⟨10880, 60⟩

/-- The bytes of a block, without its check word. -/
def Block.bytes (b : Block) (m : Memory) : List Byte := Memory.readBytes m b.base b.length

/-- A block's check word agrees (R137, R179, R192). -/
def Block.good (b : Block) (m : Memory) : Bool :=
  decide (blockCheck (b.bytes m) = word16 (Memory.readBytes m (b.base + b.length) 2) 0)

/-- A block written whole, closed by its check word (11.4, R135). -/
def Block.closed (bs : List Byte) : List Byte := bs ++ bytesOf 2 (blockCheck bs)

/-! ## The station block (R179) -/

/-- A number of which 0 means none, clamped to 1..hi (R64, R88, R155). -/
def optionalNumber (hi n : Nat) : Option Nat := if n = 0 then none else some (clamp 1 hi n)

/-- The fields of bell channel `c` (R64, 11.4). -/
def channelConfigAt (bs : List Byte) (c : Nat) : ChannelConfig :=
  let o := 11 + 9 * c
  { bell := optionalNumber 64 (byteAt bs o), lead := clamp 10 400 (word16 bs (o + 1)),
    width1 := clamp 10 150 (byteAt bs (o + 3)), width2 := clamp 10 150 (byteAt bs (o + 4)),
    width3 := clamp 10 150 (byteAt bs (o + 5)), width4 := clamp 10 150 (byteAt bs (o + 6)),
    interval := clamp 100 3000 (word16 bs (o + 7)) }

/-- The fields of dial `d` (R139, 11.4). -/
def dialConfigAt (bs : List Byte) (d : Nat) : DialConfig :=
  let o := 83 + 5 * d
  { used := decide (byteAt bs o ≠ 0), width := clamp 100 1000 (word16 bs (o + 1)), interval := clamp 1 10 (byteAt bs (o + 3)),
    current := clamp 1 255 (byteAt bs (o + 4)) }

/-- The fields of circuit `c` (R155, 11.4). -/
def circuitConfigAt (bs : List Byte) (c : Nat) : CircuitConfig :=
  let o := 103 + 5 * c
  { light := optionalNumber 32 (byteAt bs o), inrush := clamp 1 255 (byteAt bs (o + 1)), hold := clamp 1 10 (byteAt bs (o + 2)),
    steady := clamp 1 255 (byteAt bs (o + 3)), feedback := decide (byteAt bs (o + 4) ≠ 0) }

/-- Of channels that name one bell, the higher-numbered are taken as unused (R64). -/
def singleBells : List Nat → List ChannelConfig → List ChannelConfig
  | _, [] => []
  | seen, c :: rest =>
      match c.bell with
      | none => c :: singleBells seen rest
      | some b => if seen.contains b then { c with bell := none } :: singleBells seen rest else c :: singleBells (b :: seen) rest

/-- Of circuits that name one light, the higher-numbered are taken as unused (R155). -/
def singleLights : List Nat → List CircuitConfig → List CircuitConfig
  | _, [] => []
  | seen, c :: rest =>
      match c.light with
      | none => c :: singleLights seen rest
      | some b => if seen.contains b then { c with light := none } :: singleLights seen rest else c :: singleLights (b :: seen) rest

/-- The bit rate of a code (R179, 11.4). -/
def bitRateOf (code : Nat) : Nat := if code = 0 then 10 else if code = 1 then 20 else 50

/-- The mark period of a code (R179, 11.4). -/
def markPeriodOf (code : Nat) : Nat := if code = 0 then 8 else if code = 1 then 16 else 32

/-- The station block, each field clamped to its range (R179). -/
def stationBlockOf (bs : List Byte) : StationBlock :=
  { number := byteAt bs 0, bitRate := bitRateOf (byteAt bs 1), markPeriod := markPeriodOf (byteAt bs 2),
    reference := bitOf (byteAt bs 3) 0, cueCapable := bitOf (byteAt bs 3) 1, hammerSlots := clamp 1 8 (byteAt bs 4),
    cueLead := clamp 500 5000 (word16 bs 5), hourBell := optionalNumber 64 (byteAt bs 7),
    hourInterval := clamp 1500 6000 (word16 bs 8), velocity := clamp 1 4 (byteAt bs 10),
    channels := singleBells [] ((List.range 8).map (channelConfigAt bs)), dials := (List.range 4).map (dialConfigAt bs),
    circuits := singleLights [] ((List.range 6).map (circuitConfigAt bs)), budget := clamp 1 2000 (word16 bs 133) }

/-- The station block in the memory, unless it is bad (R179). -/
def readStationBlock (m : Memory) : Option StationBlock :=
  if stationBlock.good m && decide (byteAt (stationBlock.bytes m) 0 ≤ 14) then some (stationBlockOf (stationBlock.bytes m)) else none

/-! ## The tune block (R137) -/

/-- A directory entry as stored (11.4). -/
structure StoredTune where
  index : Nat
  number : Nat
  length : Nat
  beat : Nat
  own : Nat
  first : Nat
  code : Nat
deriving DecidableEq, Repr

/-- Directory entry `i` of the tune block. -/
def storedTuneAt (bs : List Byte) (i : Nat) : StoredTune :=
  let o := 2 + 10 * i
  { index := i, number := byteAt bs o, length := word16 bs (o + 1), beat := word16 bs (o + 3), own := word16 bs (o + 5),
    first := word16 bs (o + 7), code := byteAt bs (o + 9) }

/-- The used directory entries of the tune block. -/
def storedTunes (bs : List Byte) : List StoredTune := ((List.range 64).map (storedTuneAt bs)).filter fun t => decide (t.number ≠ 0)

/-- The notes of the tune block, up to its note count (11.4). -/
def storedNotes (bs : List Byte) : List Note := (List.range (min (word16 bs 0) 2048)).map fun i => noteAt bs (642 + 4 * i)

/-- Offsets do not decrease (R115). -/
def offsetsRise : List Note → Bool
  | [] => true
  | [_] => true
  | a :: b :: rest => decide (a.offset ≤ b.offset) && offsetsRise (b :: rest)

/-- The notes of two entries overlap. -/
def StoredTune.overlaps (a b : StoredTune) : Bool :=
  decide (a.first < b.first + b.own) && decide (b.first < a.first + a.own) && decide (0 < a.own) && decide (0 < b.own)

/-- A stored entry is kept (R137): not OPEN, in range, its number new, its notes inside the block's 2,048 records, apart, and
those that the note count does not leave out in order, foreign ones among them. One with no own notes has none to run past
the block, and a code that names no state is not kept (log 24). -/
def StoredTune.kept (t : StoredTune) (all : List StoredTune) (notes : List Note) : Bool :=
  (decide (t.code = 1) || decide (t.code = 2)) && decide (1 ≤ t.number) && decide (t.number ≤ 250)
    && decide (1 ≤ t.length) && decide (t.length ≤ 4096) && decide (150 ≤ t.beat) && decide (t.beat ≤ 2000)
    && !(all.any fun o => decide (o.index < t.index) && decide (o.number = t.number))
    && decide (t.own = 0 ∨ t.first + t.own ≤ 2048)
    && !(all.any fun o => decide (o.index ≠ t.index) && t.overlaps o)
    && offsetsRise ((notes.drop t.first).take t.own)

/-- Entries in the order in which their notes stand in the block. -/
def insertByFirst (t : StoredTune) : List StoredTune → List StoredTune
  | [] => [t]
  | o :: rest => if o.first ≤ t.first then o :: insertByFirst t rest else t :: o :: rest

/-- The directory and the notes while entries are taken one after another (R137). -/
structure LoadedTunes where
  tunes : List (Option Tune)
  notes : List Note
deriving DecidableEq, Repr

/-- A kept entry is taken, its foreign notes removed (R116, R137). -/
def LoadedTunes.take (l : LoadedTunes) (cfg : StationBlock) (notes : List Note) (t : StoredTune) : LoadedTunes :=
  let all := (notes.drop t.first).take t.own
  let own := all.filter fun n => cfg.isOwn n.bell
  { tunes := l.tunes.set t.index (some
      { number := t.number, length := t.length, beat := t.beat, own := own.length, received := own.length,
        first := l.notes.length, state := if t.code = 1 then .ready else .incomplete })
    notes := l.notes ++ own }

/-- The tune block's entries that are kept. -/
def keptTunes (bs : List Byte) : List StoredTune :=
  (storedTunes bs).filter fun t => t.kept (storedTunes bs) (storedNotes bs)

/-- The tune block as it is taken (R137). -/
def loadTunes (cfg : StationBlock) (bs : List Byte) : LoadedTunes :=
  ((keptTunes bs).foldl (fun l t => insertByFirst t l) []).foldl (fun l t => l.take cfg (storedNotes bs) t)
    { tunes := List.replicate 64 none, notes := [] }

/-- The notes of the tune block whose bells are not own, counted before any entry is dropped (R116, R137). -/
def foreignNotes (cfg : StationBlock) (bs : List Byte) : Nat := (storedNotes bs).countP fun n => !cfg.isOwn n.bell

/-! ## The other blocks, and the programme as it is taken (R137) -/

/-- What LOADING makes of the programme area: the store, whether PROG_INVALID is set, and the foreign notes counted. -/
structure LoadedProgramme where
  programme : Programme
  invalid : Bool
  foreign : Nat
deriving DecidableEq, Repr

/-- Calendar slot `i` of the calendar block: none when its fields break R123 or R124. -/
def storedSlot (bs : List Byte) (i : Nat) : Option (Option CalendarSlot) := slotOf ((bs.drop (14 * i)).take 14)

/-- The programme area as it is taken (R137). -/
def loadProgramme (cfg : StationBlock) (m : Memory) : LoadedProgramme :=
  let tb := tuneBlock.bytes m
  let cb := calendarBlock.bytes m
  let db := duskBlock.bytes m
  let sb := sceneBlock.bytes m
  let tunesGood := tuneBlock.good m
  let calendarGood := calendarBlock.good m
  let duskGood := duskBlock.good m
  let scenesGood := sceneBlock.good m
  let l : LoadedTunes := if tunesGood then loadTunes cfg tb else { tunes := List.replicate 64 none, notes := [] }
  { programme :=
      { Programme.cold with
        tunes := l.tunes
        notes := l.notes
        calendar := if calendarGood then (List.range 96).map (fun i => (storedSlot cb i).getD none) else List.replicate 96 none
        dusk := if duskGood then (List.range 46).map (fun i => some (clamp 0 1439 (word16 db (2 * i)))) else List.replicate 46 none
        scenes := if scenesGood then
            (0 : BitVec 32) :: (List.range 15).map (fun i => BitVec.ofNat 32 (word16 sb (4 * i) * 65536 + word16 sb (4 * i + 2)))
          else List.replicate 16 0 }
    invalid := !tunesGood || !calendarGood || !duskGood || !scenesGood
      || (tunesGood && decide ((keptTunes tb).length ≠ (storedTunes tb).length))
      || (calendarGood && (List.range 96).any (fun i => (storedSlot cb i).isNone))
    foreign := if tunesGood then foreignNotes cfg tb else 0 }

/-! ## STORE (R135) -/

/-- A directory entry as it is stored: zero for an empty one (11.4). -/
def directoryBytes : Option Tune → List Byte
  | none => List.replicate 10 0
  | some t => t.bytes

/-- The tune block as STORE writes it (11.4): notes beyond the note count are zero. -/
def Programme.tuneBytes (p : Programme) : List Byte :=
  bytesOf 2 p.notes.length ++ p.tunes.flatMap directoryBytes ++ p.notes.flatMap Note.bytes
    ++ List.replicate (4 * (2048 - p.notes.length)) 0

/-- The calendar block as STORE writes it. -/
def Programme.calendarBytes (p : Programme) : List Byte := p.calendar.flatMap slotBytes

/-- The bytes of dusk entries from entry `k` on; an absent one is a free value (log 36). -/
def duskBytesFrom : Nat → List (Option Nat) → List Byte
  | _, [] => []
  | k, e :: rest => bytesOf 2 (e.getD (Config.absentDusk k).toNat) ++ duskBytesFrom (k + 1) rest

/-- The dusk block as STORE writes it. -/
def Programme.duskBytes (p : Programme) : List Byte := duskBytesFrom 0 p.dusk

/-- The scene block as STORE writes it: scenes 1 to 15. -/
def Programme.sceneBytes (p : Programme) : List Byte := (p.scenes.drop 1).flatMap fun x => bytesOf 4 x.toNat

/-- The four blocks in the order in which STORE writes them (R135). -/
def Programme.blocks (p : Programme) : List (Block × List Byte) :=
  [(tuneBlock, p.tuneBytes), (calendarBlock, p.calendarBytes), (duskBlock, p.duskBytes), (sceneBlock, p.sceneBytes)]

/-- Blocks written whole (R135). -/
def writeBlocks : Memory → List (Block × List Byte) → Memory
  | m, [] => m
  | m, (b, bs) :: rest => writeBlocks (m.writeBytes b.base (Block.closed bs)) rest

/-- The memory a STORE leaves: all four blocks, or, when block `k` reads back different, those before it and the bytes that block
then holds (R135, log 23). -/
def Programme.stored (p : Programme) (m : Memory) (failed : Option Nat) (held : List Byte) : Memory :=
  match failed with
  | none => writeBlocks m p.blocks
  | some k =>
      match p.blocks[k]? with
      | none => writeBlocks m p.blocks
      | some (b, bs) => (writeBlocks m (p.blocks.take k)).writeBytes b.base (held.take (bs.length + 2))

end Sys2Proof.Machine
end

