-- ==== Sys2Proof/Machine/Reports.lean ====
section
/-! DEFINITION. The bus controller's reports to the blocks that queued frames (R59, R60, R91, R168, R170, R171), and its bus
states (R53, R54, R62). -/

namespace Sys2Proof.Machine

/-- The fate of a frame that leaves the transmit queue (R59); a flush at a RESTART is told apart (R174). -/
inductive Fate where
  | heard
  | unheard
  | dropped
  | flushed
  | flushedRestart
deriving DecidableEq, Repr

/-- The frame completed (R168). -/
def Fate.complete : Fate → Bool
  | .heard | .unheard => true
  | _ => false

/-- The frame state a CUE's report gives (R91). -/
def Fate.cueState : Fate → FrameState
  | .heard => .heard
  | _ => .undelivered

/-- A CUE's report reaches the record that queued it (R91). -/
def Station.cueReport (s : Station) (k : Key) (o : Fate) : Station :=
  match s.pf.slotOf k with
  | none => s
  | some slot => match s.record slot with
    | none => s
    | some r => if r.frameState = .queued then s.setRecord slot (some { r with frameState := o.cueState }) else s

/-- The consumer of a draw id is told PLACED (R168): ids 8 to 11 are dials, 0 to 5 circuits. -/
def Station.tellPlaced (s : Station) (id : Nat) (increase : Bool) : Station :=
  if 8 ≤ id then s.dialPlaced (id - 8) else if increase then s.circuitRaised id else s.circuitPlaced id

/-- The report on an own new draw or increase (R168). -/
def Station.newDrawReport (s : Station) (id amount hold : Nat) (increase : Bool) (o : Fate) : Station :=
  if o.complete then
    ({ s with sup := (s.sup.place s.cfg.number id amount hold increase s.tb.run).dropItem id } : Station).tellPlaced id increase
  else { s with sup := s.sup.setQueued id false }

/-- The report on a renewal or a decrease (R170, R174). -/
def Station.renewalReport (s : Station) (id hold : Nat) (o : Fate) : Station :=
  if o.complete then { s with sup := s.sup.setAnnounced id hold s.tb.run }
  else if o = .flushedRestart then s else s.raise .budgetUnannounced

/-- What the report on an own DRAW does by what the DRAW was for (R168, R170). -/
def Station.drawOutcome (s : Station) (id amount hold : Nat) (p : DrawPurpose) (o : Fate) : Station :=
  match p with
  | .new => s.newDrawReport id amount hold false o
  | .increase serves =>
      let t := s.newDrawReport id amount hold true o
      if serves && decide (o = Fate.dropped ∨ o = Fate.flushed) then t.raise .budgetUnannounced else t
  | .renewal | .decrease => s.renewalReport id hold o
  | .freed => if o.complete then s.freeGivenUp id else s

/-- A DRAW that completed is the last announcement of its id for a FREE pending since its consumer freed it (R171). -/
def Station.drawAnnounced (s : Station) (id : Nat) (o : Fate) : Station :=
  if o.complete then { s with sup := s.sup.renewFrees id s.tb.run } else s

/-- The report on an own DRAW, with the placement check that follows (R167, R168, R170, R171). -/
def Station.drawReport (s : Station) (id amount hold : Nat) (p : DrawPurpose) (o : Fate) : Station :=
  ((s.drawAnnounced id o).drawOutcome id amount hold p o).placementCheck

/-- The bus controller reports a frame's fate to the block that queued it (R59). -/
def Station.reportFrame (s : Station) (o : Fate) : Frame → Station
  | .mark _ => if o.complete then { s with ag := { s.ag with stepped := s.ag.steppedInAttempt } } else s
  | .cue k _ _ _ => s.cueReport k o
  | .halt _ => s
  | .draw id amount hold p => s.drawReport id amount hold p o
  | .free _ => s
  | .answer _ _ _ _ _ restarts => if restarts then { s with panel := { s.panel with restartDue := true } } else s

/-! ## Flush and bus states (R54, R59, R62) -/

/-- A frame that the station is sending is driven no further (R59). -/
def Bus.stopSending (b : Bus) : Bus :=
  match b.current with
  | some ⟨_, .sending _⟩ => { b with current := none, drive := .released, wait := .gaveUp }
  | _ => b

/-- Every frame in the queue is removed and reported (R59). -/
def Station.flush (s : Station) (o : Fate) : Station :=
  s.bus.queue.foldl (fun t q => t.reportFrame o q.frame)
    { s with bus := { s.bus.stopSending with queue := [], heldMark := false } }

/-- The bus state that the counts give (R54). -/
def busStateOf (send hear : Nat) : BusState :=
  if 255 < send then .mute else if decide (96 ≤ send) || decide (96 ≤ hear) then .guarded else .active

/-- Entry into MUTE (R54, R55, R59). -/
def Station.enterMute (s : Station) : Station :=
  ((({ s with bus := { s.bus with state := .mute, spans := 0, spanBits := 0 } } : Station).raise .busMute)).flush .flushed

/-- The bus state is recomputed from the counts (R54). -/
def Station.recomputeBus (s : Station) : Station :=
  let new := busStateOf s.bus.send s.bus.hear
  if decide (s.bus.state = .duplicate) || decide (s.bus.state = new) then s
  else match new with
    | .mute => s.enterMute
    | .guarded => ({ s with bus := { s.bus with state := .guarded } } : Station).raise .busGuarded
    | _ => { s with bus := { s.bus with state := new } }

/-- Entry into DUPLICATE (R62). -/
def Station.enterDuplicate (s : Station) : Station :=
  (({ s with bus := { s.bus with state := .duplicate } } : Station).raise .duplicateStation).flush .flushed

/-- The counts change: RUNNING, in ACTIVE or GUARDED (R53). -/
def Station.counting (s : Station) : Bool := s.running && s.bus.mayQueue

/-- The send and hear counts after an event (R53). -/
def Station.count (s : Station) (f : Bus → Bus) : Station :=
  if s.counting then ({ s with bus := f s.bus } : Station).recomputeBus else s

/-- A MARK held beside the queue is placed in the slot its older MARK freed (R58). -/
def Station.placeHeldMark (s : Station) : Station :=
  if s.bus.heldMark then { s with bus := ({ s.bus with heldMark := false } : Bus).append (.mark none) } else s

/-- A MARK held beside the queue replaces the older MARK, whose attempt failed or lost (R58). -/
def Bus.swapHeldMark (b : Bus) (age : Nat) : Bus :=
  if b.heldMark then ({ b with heldMark := false } : Bus).replaceAt age (.mark none) else b

/-- The slot of an age. -/
def Bus.slotAt (b : Bus) (age : Nat) : Option QueueSlot := b.queue.find? fun q => decide (q.age = age)

/-- The slot of the attempt in progress (R57). -/
def Bus.attempt (b : Bus) : Option QueueSlot :=
  match b.current with
  | some ⟨_, .sending a⟩ => b.slotAt a
  | _ => none

/-- An attempt has ended: nothing in progress, and the line left as given. -/
def Bus.endAttempt (b : Bus) (wait : LineWait) (drive : LineDrive) : Bus :=
  { b with current := none, wait := wait, drive := drive }

/-- After an attempt, once its count has made the bus state: in GUARDED 8 more bits to wait (R54). -/
def Bus.noteGuarded (b : Bus) : Bus := { b with guardedWait := decide (b.state = .guarded) }

/-- After an attempt of the station, 8 more bits to wait in GUARDED (R54). -/
def Station.noteGuarded (s : Station) : Station := { s with bus := s.bus.noteGuarded }

/-- An error attempt of a slot is counted (R59). -/
def Bus.countError (b : Bus) (age : Nat) : Bus :=
  { b with queue := b.queue.map fun q => if q.age = age then { q with errors := q.errors + 1 } else q }

/-- An unheard attempt of a slot is counted (R59). -/
def Bus.countUnheard (b : Bus) (age : Nat) : Bus :=
  { b with queue := b.queue.map fun q => if q.age = age then { q with unheard := q.unheard + 1 } else q }

/-- A frame leaves the queue with its report, and a held MARK takes the slot it frees (R58, R59). -/
def Station.finishFrame (s : Station) (q : QueueSlot) (o : Fate) : Station :=
  (({ s with bus := s.bus.removeAt q.age } : Station).placeHeldMark).reportFrame o q.frame

/-- The drive after an error: a break in ACTIVE, nothing otherwise (R52). -/
def Bus.errorDrive (b : Bus) (running : Bool) : LineDrive :=
  if running && decide (b.state = .active) then .brk else .released

/-- A kind whose unheard completion ends it at once (R59). -/
def Frame.oneHearing : Frame → Bool
  | .mark _ | .answer _ _ _ _ _ _ => true
  | _ => false

end Sys2Proof.Machine
end

