-- ==== Sys2Proof/Machine/Starts.lean ====
section
/-! DEFINITION. The start-up sequencer's operations (09_start_up_and_retention.md): entry into SUPPLY_WAIT, the starts, CHECKING,
LOADING, entry into LISTENING and RUNNING, and restart. -/

namespace Sys2Proof.Machine

/-! ## SUPPLY_WAIT (R18, R175, R176) -/

/-- A pulse in progress is abandoned (R75, R176). -/
def Channel.cutPulse (c : Channel) : Channel :=
  if c.state = .striking then { c with state := .settling, pulseEnd := none } else c

/-- Entry into SUPPLY_WAIT (R176): outputs released, work in progress abandoned, the backup domain takes over. -/
def Station.enterSupplyWait (s : Station) : Station :=
  { s with
    tb := s.tb.takeOver
    bus := { s.bus with current := none, drive := .released, wait := .joining }
    channels := s.channels.map Channel.cutPulse
    pg := { s.pg with storing := none }
    dials := s.dials.map fun d => { d with pulseEnd := none }
    sup := { s.sup with circuits := s.sup.circuits.map fun c => { c with closed := false } }
    seq := { s.seq with state := .supplyWait, timeout := none }
    panel := { s.panel with restartDue := false } }

/-- SUPPLY_WAIT is entered unless the station is in it (R176). -/
def Station.toSupplyWait (s : Station) : Station := if s.seq.state = .supplyWait then s else s.enterSupplyWait

/-! ## The start moment (R19, R43, R63, R83, R114, R138, R154, R173, R176, R189) -/

/-- The kind of start decided at a start moment (R176). -/
def Sequencer.startKind (q : Sequencer) : StartKind :=
  if q.supplyFell then (if q.backupValid then .restore else .cold) else .warm

/-- A dial at a start moment: position and polarity come from the backup domain but at a COLD start (R154). -/
def Dial.startAt (d : Dial) (kind : StartKind) : Dial :=
  match kind with
  | .cold => Dial.cold
  | .restore | .warm => { Dial.cold with position := d.position, polarity := d.polarity }

/-- The start moment: each block takes the state its start rule gives (R176, R184). -/
def Station.startAt (s : Station) (kind : StartKind) : Station :=
  { tb := s.tb.startAt kind
    ag := Agreement.cold
    bus := Bus.cold
    channels := List.replicate 8 { Channel.cold with lastLaunch := some ⟨0, 0⟩ }
    pf := Performances.cold
    pg := Programme.cold
    dials := s.dials.map fun d => d.startAt kind
    sup := Supply.cold
    seq := { state := .checking, supplyGood := true, resetAsserted := false, supplyFell := false,
             backupValid := s.seq.backupValid, timeout := none, kind := kind }
    panel := Panel.cold
    cfg := s.cfg
    lines := s.lines }

/-! ## CHECKING (R82, R173, R178) -/

/-- The channels at the end of CHECKING, from channel `n` on (R82). -/
def checkChannels (s : Station) : Nat → List Channel → List Channel
  | _, [] => []
  | n, c :: rest => c.checked (s.showsRest n) :: checkChannels s (n + 1) rest

/-- The circuits at the end of CHECKING, from circuit `n` on (R173). -/
def checkCircuits (s : Station) : Nat → List Circuit → List Circuit
  | _, [] => []
  | n, c :: rest => { c with state := if s.showsClosed n then .faulted else .off } :: checkCircuits s (n + 1) rest

/-- A channel that names a bell has been found FAULTED (R78, R82). -/
def anyFault : List Channel → List ChannelConfig → Bool
  | [], _ => false
  | _, [] => false
  | c :: cs, k :: ks => (k.bell.isSome && decide (c.state = .faulted)) || anyFault cs ks

/-- The end of CHECKING (R178). Every channel and circuit is watched; a fault of a channel that the station block `b` uses sets
HAMMER_FAULT (R82, log 13). -/
def Station.endChecking (s : Station) (b : StationBlock) : Station :=
  let channels := checkChannels s 0 s.channels
  let s' : Station := { s with
    channels := channels
    sup := { s.sup with circuits := checkCircuits s 0 s.sup.circuits }
    seq := { s.seq with state := .loading, backupValid := s.seq.backupValid || s.lines.backup } }
  if anyFault channels b.channels then s'.raise .hammerFault else s'

/-! ## LOADING (R64, R139, R155, R179) -/

/-- The channels under the station block: one that names no bell is UNUSED (R65, R82). -/
def useChannels : List Channel → List ChannelConfig → List Channel
  | [], _ => []
  | cs, [] => cs
  | c :: cs, k :: ks => (if k.bell.isSome then c else { Channel.cold with lastLaunch := c.lastLaunch }) :: useChannels cs ks

/-- The circuits under the station block: one that names no light is UNUSED, one without feedback does not fault (R155, R173). -/
def useCircuits : List Circuit → List CircuitConfig → List Circuit
  | [], _ => []
  | cs, [] => cs
  | c :: cs, k :: ks =>
      (if k.light.isNone then Circuit.cold else if k.feedback then c else { c with state := .off }) :: useCircuits cs ks

/-- The dials under the station block: used ones hold until RUNNING entry (R154). -/
def useDials : List Dial → List DialConfig → List Dial
  | [], _ => []
  | ds, [] => ds
  | d :: ds, k :: ks => { d with state := if k.used then .holding else .unused } :: useDials ds ks

/-- Every block takes its fields of the station block (R179), and the faults of CHECKING are told (R78, R82). -/
def Station.configure (s : Station) (b : StationBlock) : Station :=
  let channels := useChannels s.channels b.channels
  let s' : Station := { s with
    cfg := b
    channels := channels
    dials := useDials s.dials b.dials
    sup := { s.sup with circuits := useCircuits s.sup.circuits b.circuits }
    ag := { s.ag with refState := if b.reference then .searching else .absent } }
  if channels.any fun c => decide (c.state = .faulted) then s'.raise .hammerFault else s'

/-- The programme store takes what LOADING read (R137). -/
def Station.takeProgramme (s : Station) (l : LoadedProgramme) : Station :=
  let s' : Station := { s with pg := l.programme }
  (if l.invalid then s'.raise .progInvalid else s').bumpBy .foreignNotes l.foreign

/-- Entry into LISTENING with a timeout so many mark periods ahead (R45, R181). -/
def Station.enterListening (s : Station) (periods : Nat) : Station :=
  { s with
    bus := { s.bus with wait := .joining, current := none, drive := .released }
    ag := { s.ag with stepped := false, steppedInAttempt := false }
    seq := { s.seq with state := .listening, timeout := some (s.tb.run.plus (secCycles (periods * s.cfg.markPeriod))) } }

/-- The end of LOADING (R179, R180). -/
def Station.endLoading (s : Station) (m : Memory) (answers : Bool) : Station :=
  match if answers then readStationBlock m else none with
  | none => { s with seq := { s.seq with state := .unconfigured } }
  | some b => ((s.configure b).takeProgramme (loadProgramme b m)).enterListening 3

/-! ## RUNNING entry (R182) -/

/-- A dial's live draw is renewed from the entry on (R154). -/
def Station.renewFromEntry (s : Station) (draw : DrawState) (due : Option RunTime) : Option RunTime :=
  if draw = .live then some (s.tb.run.plus (secCycles 60)) else due

/-- The dials at RUNNING entry (R154, R182). -/
def Station.dialsEntry (s : Station) : Station :=
  ({ s with dials := s.dials.map fun d => { d with renewalDue := s.renewFromEntry d.draw d.renewalDue } } : Station).evaluateDials

/-- The own entries are announced again (R174), in the order of the draw list (log 54). -/
def Station.announceOwn (s : Station) : Station :=
  (s.sup.draws.filter (·.own)).foldl (fun t e => t.renewDraw e.id 150) s

/-- The light and supply unit at RUNNING entry (R167, R174, R182). -/
def Station.supplyEntry (s : Station) : Station :=
  ({ s with sup := { s.sup with
      quietEnd := some (s.tb.run.plus (secCycles 150))
      circuits := s.sup.circuits.map fun c => { c with renewalDue := s.renewFromEntry c.draw c.renewalDue } } } : Station).announceOwn

/-- The agreement unit at RUNNING entry (R28, R42). -/
def Station.agreementEntry (s : Station) : Station := (s.select.1).lookForMark

/-- The performance unit at RUNNING entry (R107). -/
def Station.performEntry (s : Station) : Station := if s.tb.valid then s.makeUpHour none else s

/-- Entry into RUNNING, each block in one order (R182, log 10). -/
def Station.enterRunning (s : Station) : Station :=
  let s' : Station := { s with seq := { s.seq with state := .running, timeout := none } }
  s'.agreementEntry.supplyEntry.performEntry.programmeEntry.dialsEntry.reevaluate

/-- RUNNING is entered from LISTENING on an acquisition (R181). -/
def Station.acquired (s : Station) (yes : Bool) : Station := if yes && s.listening then s.enterRunning else s

/-! ## Restart (R43, R63, R83, R114, R138, R154, R173, R174, R183) -/

/-- A channel at a RESTART (R83). -/
def Channel.restart (c : Channel) : Channel := c.clear

/-- The agreement unit at a RESTART: the reference is kept (R43). -/
def Agreement.restart (a : Agreement) : Agreement :=
  { Agreement.cold with refState := a.refState, candidate := a.candidate, lastMinute := a.lastMinute, message := a.message }

/-- The light and supply unit at a RESTART (R173). -/
def Supply.restart (u : Supply) : Supply :=
  { u with draws := u.draws.filter (·.own), waiting := u.waiting.map (fun i => { i with queued := false }),
           incomplete := false, lastOverflow := none }

/-- A restart (R183). -/
def Station.restart (s : Station) : Station :=
  let t := ({ s with seq := { s.seq with state := .listening } } : Station).flush .flushedRestart
  ({ t with
    tb := t.tb.dropEvents
    ag := t.ag.restart
    bus := Bus.cold
    channels := t.channels.map Channel.restart
    pf := { Performances.cold with lastHour := t.pf.lastHour }
    pg := { t.pg with storing := none, staging := none }
    sup := t.sup.restart
    panel := { t.panel with restartDue := false } } : Station).enterListening (if t.tb.valid then 1 else 3)

/-- A restart in the run states that take one (R183). -/
def Station.restartIfTaken (s : Station) : Station := if s.inService then s.restart else s

/-- The restart of a RESTART request whose ANSWER has been reported (R183). -/
def Station.restartIfDue (s : Station) : Station :=
  if s.panel.restartDue then ({ s with panel := { s.panel with restartDue := false } } : Station).restartIfTaken else s

end Sys2Proof.Machine
end

