-- ==== Sys2Proof/Machine/Wire.lean ====
section
/-! DEFINITION. What the station does on the line (03_the_tower_bus.md): start bits, ends of attempts, receptions, errors,
recovery from MUTE. -/

namespace Sys2Proof.Machine

/-! ## Start bits (R45, R48, R54, R57) -/

/-- Recessive bits in a row after which a dominant bit is read as a start bit (R45). -/
def LineWait.readAfter : LineWait → Nat
  | .joining => 12
  | .afterFrame => 0
  | .gaveUp => 10

/-- Recessive bits in a row after which the station may drive a start bit (R45, R54). -/
def Bus.driveAfter (b : Bus) : Nat :=
  (match b.wait with
   | .joining => 12
   | .afterFrame => 3
   | .gaveUp => 10) + (if b.guardedWait && decide (b.state = .guarded) then 8 else 0)

/-- The fields of an own MARK at its start bit (R22). -/
def Station.markFields (s : Station) : MarkFields :=
  { day := s.tb.day, us := s.tb.us, stratum := s.stratum, followed := s.ag.followed, valid := s.tb.valid,
    stepped := s.ag.stepped, locked := decide (s.ag.refState = .locked) }

/-- An own MARK is filled at the start bit; other frames go as queued (R22, R59). -/
def Station.filled (s : Station) : Frame → Frame
  | .mark _ => .mark (some s.markFields)
  | f => f

/-- The station drives a start bit for the slot it offers (R48, R57). -/
def Station.driveStart (s : Station) (q : QueueSlot) : Station :=
  let f := s.filled q.frame
  { s with
    bus := { s.bus with
      queue := s.bus.queue.map fun o => if o.age = q.age then { o with frame := f } else o
      current := some { capture := s.tb.capture, role := .sending q.age }
      guardedWait := false
      drive := .frame (false :: frameBits (f.word s.cfg.number) f.payload) }
    ag := if q.frame.isMark then { s.ag with steppedInAttempt := false } else s.ag }

/-- The station reads another station's start bit after so many recessive bits (R48). A wait of 8 bits in GUARDED that it falls
in begins again after the frame; one that has run out is over (R54). -/
def Station.readStart (s : Station) (recessive : Nat) : Station :=
  { s with bus := { s.bus with
      current := some { capture := s.tb.capture, role := .receiving }, drive := .released
      guardedWait := s.bus.guardedWait && decide (s.bus.state = .guarded) && decide (recessive < s.bus.driveAfter) } }

/-- A start bit on the line (R45, R48): driven, where the station may drive one and has a frame to offer, or read. -/
def Station.startBit (s : Station) (own : Bool) (recessive : Nat) : Station :=
  if !s.inService || s.bus.current.isSome then s
  else if own then
    (if s.counting && decide (s.bus.driveAfter ≤ recessive) then
      match s.bus.offer s.cfg.number with
      | none => s
      | some q => s.driveStart q
     else s)
  else if s.bus.wait.readAfter ≤ recessive then s.readStart recessive
  else s

/-! ## Attempts of own frames (R49, R53, R59) -/

/-- Arbitration is lost: the capture stays for the frame on the line (R48, R49). The attempt ends here, and whether 8 more bits
are waited for is decided by the bus state of this moment, not by an error in the rest of the frame (R54, log 59). -/
def Station.loseArbitration (s : Station) : Station :=
  match s.bus.current with
  | some ⟨cap, .sending a⟩ =>
      { s with bus := ({ s.bus.swapHeldMark a with current := some ⟨cap, .receiving⟩, drive := .released } : Bus).noteGuarded }
  | _ => s

/-- The send count after a failed attempt (R53). -/
def Bus.sendUp (b : Bus) : Bus := { b with send := b.send + 8 }

/-- The send count after a heard attempt (R53). -/
def Bus.sendDown (b : Bus) : Bus := { b with send := b.send - 1 }

/-- The hear count after an error in a received frame (R53). -/
def Bus.hearUp (b : Bus) : Bus := { b with hear := min 127 (b.hear + 1) }

/-- The hear count after a frame received good, whose heard slot the station has driven (R50, R53). -/
def Bus.hearDown (b : Bus) : Bus := { b with hear := b.hear - 1, drive := .heardSlot }

/-- An attempt of an own frame fails (R52, R53, R59): the drop, if it is one, is reported before the bus state is recomputed, and
a MARK held beside a MARK so dropped takes the slot it frees (log 42). The restart of a RESTART's ANSWER so dropped comes after the
recomputation (log 62). -/
def Station.failAttempt (s : Station) : Station :=
  match s.bus.attempt with
  | none => s
  | some q =>
      let s1 : Station := { s with bus := s.bus.endAttempt .gaveUp (s.bus.errorDrive s.running) }
      ((if q.errors + 1 < 8 then { s1 with bus := (s1.bus.countError q.age).swapHeldMark q.age }
        else (s1.bump .errorDrops).finishFrame q .dropped).count Bus.sendUp).noteGuarded

/-- An attempt completes and is heard (R50, R53, R59). -/
def Station.completeHeard (s : Station) : Station :=
  match s.bus.attempt with
  | none => s
  | some q =>
      ((({ s with bus := s.bus.endAttempt .afterFrame .released } : Station).count Bus.sendDown).noteGuarded).finishFrame q .heard

/-- An attempt completes unheard (R50, R59). -/
def Station.completeUnheard (s : Station) : Station :=
  match s.bus.attempt with
  | none => s
  | some q =>
      let s1 : Station := { s with bus := (s.bus.endAttempt .afterFrame .released).noteGuarded }
      if q.frame.oneHearing then s1.finishFrame q .unheard
      else if q.unheard + 1 < 3 then { s1 with bus := s1.bus.countUnheard q.age }
      else (s1.bump .unheardDrops).finishFrame q .unheard

/-! ## Receptions (R47, R50, R53, R61, R62) -/

/-- A frame has been received good (R47): the heard slot, the hear count, and the duplicate check. The capture comes back when
the frame is to be dispatched. -/
def Station.receive (s : Station) (src : Nat) : Station × Option Capture :=
  match s.bus.current with
  | some ⟨cap, .receiving⟩ =>
      let s1 := ({ s with bus := { s.bus with current := none, wait := .afterFrame, drive := .released } } : Station).count
        Bus.hearDown
      if decide (src = s1.cfg.number) && decide (s1.bus.state ≠ .duplicate) then (s1.enterDuplicate, none) else (s1, some cap)
  | _ => (s, none)

/-- A good frame of a kind that LISTENING discards (R61), its payload of one length or discarded: the owner takes it. -/
def Station.dispatch (s : Station) (src : Nat) (fits : Bool) (take : Station → Station) : Station :=
  match s.receive src with
  | (s1, none) => s1
  | (s1, some _) => if s1.running && fits then take s1 else s1

/-- A MARK dispatched to the agreement unit (R23, R24, R41, R61). -/
def Station.takeMark (s : Station) (src : Nat) (p : List Byte) (c : Capture) : Station :=
  if decide (src < 15) && decide (src ≠ s.cfg.number) then
    let e := peerOf (markFieldsOf p) c
    if s.running then s.markRunning src e
    else if s.listening then (s.markListening src e).1.acquired (s.markListening src e).2
    else s
  else s

/-- A MARK frame received (R24, R61). -/
def Station.receiveMark (s : Station) (src : Nat) (p : List Byte) : Station :=
  match s.receive src with
  | (s1, none) => s1
  | (s1, some c) => if p.length = 9 then s1.takeMark src p c else s1

/-- What a receiver that records an error has driven last (R50, R52): the break in ACTIVE; in GUARDED the heard slot, where the
frame was good through the delimiter and the error lies after that slot; otherwise nothing. -/
def Station.receiverDrive (s : Station) (bits : List Bool) : LineDrive :=
  if s.bus.errorDrive s.running = .brk then .brk
  else if s.counting && Receiver.start.heardPassed bits then .heardSlot
  else .released

/-- An error found in a frame taken as a receiver, if the bits read show one (R50 to R53). -/
def Station.receiveError (s : Station) (bits : List Bool) : Station :=
  match s.bus.current, Receiver.start.scan bits with
  | some ⟨_, .receiving⟩, .done .form | some ⟨_, .receiving⟩, .done .check =>
      ({ s with bus := { s.bus with current := none, wait := .gaveUp, drive := s.receiverDrive bits } } : Station).count
        Bus.hearUp
  | _, _ => s

/-- What the line must show after a break that falls while no frame is in progress: a station that has not joined the line
joins it, any other has given up on a frame (R45 against R52, log 41). -/
def LineWait.afterBreak : LineWait → LineWait
  | .joining => .joining
  | .afterFrame | .gaveUp => .gaveUp

/-- A break on the line (R52): a frame in reception is discarded (log 41). -/
def Station.receiveBreak (s : Station) : Station :=
  match s.bus.current with
  | some ⟨_, .receiving⟩ => { s with bus := { s.bus with current := none, wait := .gaveUp, drive := .released } }
  | some ⟨_, .sending _⟩ => s
  | none => if s.inService then { s with bus := { s.bus with wait := s.bus.wait.afterBreak } } else s

/-! ## Recovery from MUTE (R55) -/

/-- Idle spans counted over bits read: the spans, the bits of the span in progress; 64 spans end the count (R55). -/
def countSpans : Nat → Nat → List Bool → Nat × Nat
  | spans, span, [] => (spans, span)
  | spans, span, b :: rest =>
      if 64 ≤ spans then (spans, span)
      else if b then (if span + 1 < 12 then countSpans spans (span + 1) rest else countSpans (spans + 1) 0 rest)
      else countSpans spans 0 rest

/-- Recovery from MUTE (R55): 64 spans make the station ACTIVE, its counts 0 and the line joined. -/
def Station.recover (s : Station) (bits : List Bool) : Station :=
  if s.running && decide (s.bus.state = .mute) then
    let out := countSpans s.bus.spans s.bus.spanBits bits
    if 64 ≤ out.1 then
      ({ s with bus := { s.bus with
          send := 0, hear := 0, spans := 0, spanBits := 0, state := .active,
          wait := if s.bus.current.isSome then s.bus.wait else .afterFrame } } : Station).placementCheck
    else { s with bus := { s.bus with spans := out.1, spanBits := out.2 } }
  else s

/-! ## DRAW and FREE frames (R164, R193) -/

/-- A DRAW reaches the light and supply unit (R164, R169, R193, log 22). -/
def Station.heardDraw (s : Station) (src : Nat) (p : List Byte) : Station :=
  if decide (src < 15) && decide (byteAt p 0 < 16) && decide (1 ≤ byteAt p 1) && decide (1 ≤ byteAt p 2)
      && decide (byteAt p 2 ≤ 150) then
    (s.takeDraw src (byteAt p 0) (byteAt p 1) (byteAt p 2)).recheckDraws s.sup.view
  else s

/-- The draw list has a heard entry of that station and id (R164). -/
def Supply.heardEntry (u : Supply) (station id : Nat) : Option DrawEntry :=
  u.draws.find? fun e => !e.own && decide (e.station = station) && decide (e.id = id)

/-- A FREE reaches the light and supply unit (R164); one that finds no entry changes nothing. -/
def Station.heardFree (s : Station) (src : Nat) (p : List Byte) : Station :=
  if (s.sup.heardEntry src (byteAt p 0)).isSome then s.removeHeard src (byteAt p 0) else s

end Sys2Proof.Machine
end

