-- ==== Sys2Proof/Machine/Items.lean ====
section
/-! DEFINITION. What the panel service answers to reads: READ_TIME and STATUS (R195), and the items of READ_ITEM (R188, 11.3).
Field orders where no layout is given are those of the defining rules (log 16). -/

namespace Sys2Proof.Machine

/-! ## Fields (11.3) -/

/-- One byte. -/
def num1 (n : Nat) : List Byte := bytesOf 1 n

/-- A number that may be absent, in `k` bytes: all ones for none (11.3). -/
def optNum (k : Nat) : Option Nat → List Byte
  | none => List.replicate k 255
  | some n => bytesOf k n

/-- A run time: six bytes (11.3). -/
def runBytes (t : RunTime) : List Byte := bytesOf 4 t.sec ++ bytesOf 2 t.cyc

/-- A run time or none (11.3). -/
def optRun : Option RunTime → List Byte
  | none => List.replicate 6 255
  | some t => runBytes t

/-- A tower time: seven bytes (11.3). -/
def towerBytes (t : TowerTime) : List Byte := bytesOf 2 t.day ++ bytesOf 5 t.us

/-- Code of a run state (R175). -/
def RunState.code : RunState → Nat
  | .supplyWait => 0
  | .checking => 1
  | .loading => 2
  | .unconfigured => 3
  | .listening => 4
  | .running => 5

/-- Code of a bus state (R54). -/
def BusState.code : BusState → Nat
  | .active => 0
  | .guarded => 1
  | .mute => 2
  | .duplicate => 3

/-- Code of a reference state (R38). -/
def RefState.code : RefState → Nat
  | .absent => 0
  | .searching => 1
  | .locked => 2

/-- Code of a performance state (R85). -/
def PerfState.code : PerfState → Nat
  | .waiting => 0
  | .cued => 1
  | .playing => 2
  | .ending => 3

/-- Code of a bell mark (R85), none all ones, the others counted from 0 (log 16). -/
def BellMark.code : BellMark → Nat
  | .none => 255
  | .held => 0
  | .claimed _ => 1
  | .displaced => 2
  | .faulted => 3

/-- Code of an origin (R85). -/
def Origin.code : Origin → Nat
  | .localCue => 0
  | .heard => 1

/-- Code of a frame state (R85), NONE being the first of its listed values (log 16). -/
def FrameState.code : FrameState → Nat
  | .none => 0
  | .queued => 1
  | .heard => 2
  | .undelivered => 3

/-- Code of a recent key's outcome (R87). -/
def KeyOutcome.code : KeyOutcome → Nat
  | .ended => 0
  | .aborted => 1
  | .haltedBeforeCue => 2

/-- Code of a channel state (R65). -/
def ChannelState.code : ChannelState → Nat
  | .ready => 0
  | .striking => 1
  | .settling => 2
  | .faulted => 3
  | .unused => 4

/-- Code of a late class (R66). -/
def LateClass.code : LateClass → Nat
  | .hour => 0
  | .toll => 1
  | .quarter => 2
  | .tune => 3
  | .panel => 4

/-- Code of an owner (R66): the slot, or 6 for PANEL. -/
def Owner.code : Owner → Nat
  | .slot n => n
  | .panel => 6

/-- Code of a holder (R67): the slot, or 6 for PANEL. -/
def Holder.code : Holder → Nat
  | .none => 255
  | .perf n _ => n
  | .panel => 6

/-- Code of a dial state (R140); 7 for a dial that is not used (R139, log 16). -/
def DialState.code : DialState → Nat
  | .idle => 0
  | .pulsing => 1
  | .catchingUp => 2
  | .waitingSupply => 3
  | .holding => 4
  | .seeking => 5
  | .faulted => 6
  | .unused => 7

/-- Code of a circuit state (R156); 5 for a circuit that is not used (R155, log 16). -/
def CircuitState.code : CircuitState → Nat
  | .off => 0
  | .waitingSupply => 1
  | .starting => 2
  | .on => 3
  | .faulted => 4
  | .unused => 5

/-- Code of a draw (R140, R156): none is all ones (11.3) and is counted as 0 of the listing, so PENDING is 1 (log 16). -/
def DrawState.code : DrawState → Nat
  | .none => 255
  | .pending => 1
  | .live => 2

/-- Code of a polarity (R140). -/
def Polarity.code : Polarity → Nat
  | .positive => 0
  | .negative => 1

/-! ## READ_TIME and STATUS (R187, R195) -/

/-- The data of a READ_TIME answer (R195). -/
def Station.timeData (s : Station) : List Byte := bytesOf 2 s.tb.day ++ bytesOf 5 s.tb.us ++ num1 s.tb.offset

/-- The anomaly summary as it is answered (R195). -/
def Station.summaryData (s : Station) : List Byte := bytesOf 3 s.panel.summary.toNat

/-- STATUS page 0 (R195). -/
def Station.statusPage0 (s : Station) : List Byte :=
  num1 (s.seq.state.code * 16 + s.bus.state.code) ++ bytesOf 2 s.bus.send ++ num1 s.bus.hear
    ++ num1 (s.stratum * 32 + s.ag.refState.code * 8) ++ num1 (s.ag.followed.getD 15)
    ++ num1 (s.tb.valid.toNat * 8 + s.pf.silenced.toNat * 4 + s.seq.backupValid.toNat * 2 + s.alarm.toNat)

/-- STATUS page 2 (R195). -/
def Station.statusPage2 (s : Station) : List Byte :=
  bytesOf 2 s.sup.view ++ num1 s.sup.scene
    ++ num1 (s.sup.override.toNat * 4 + s.sup.incomplete.toNat * 2 + s.sup.quietEnd.isSome.toNat) ++ num1 s.slotsInUse

/-- A STATUS page, if there is one of that number (R187). -/
def Station.statusPage (s : Station) (page : Nat) : Option (List Byte) :=
  match page with
  | 0 => some s.statusPage0
  | 1 => some s.summaryData
  | 2 => some s.statusPage2
  | _ => none

/-! ## Items (R188) -/

/-- A peer table entry (R24). -/
def Peer.item (p : Peer) : List Byte :=
  num1 p.stratum ++ optNum 1 p.followed ++ [flagByte p.valid, flagByte p.locked, flagByte p.stepped] ++ runBytes p.markRun
    ++ signedBytes 8 p.theta

/-- A performance record (R86); a WAITING hour has no start yet. Its bell marks are eight bytes, one for each channel in the order
of the channels (log 16). -/
def Record.item (r : Record) : List Byte :=
  r.key.bytes 0 ++ num1 r.state.code ++ (if r.state = .waiting then List.replicate 7 255 else towerBytes r.start)
    ++ [flagByte r.hasPart] ++ num1 r.origin.code ++ num1 r.frameState.code ++ num1 r.entriesOut
    ++ r.marks.flatMap fun m => num1 m.code

/-- A recent key with its outcome and age (R87), the age as seconds and cycles (log 16). -/
def RecentKey.item (k : RecentKey) (now : RunTime) : List Byte :=
  k.key.bytes 0 ++ num1 k.outcome.code ++ runBytes (RunTime.ofCycles (k.run.elapsed now))

/-- A strike entry (R66). -/
def StrikeEntry.item (e : StrikeEntry) : List Byte :=
  towerBytes e.target ++ num1 e.owner.code ++ num1 e.velocity ++ num1 e.phrase.code ++ num1 e.late.code

/-- A waiting-note slot (R67); an empty one is as wide as a filled one, all ones (log 16). -/
def waitingItem : Option WaitingNote → List Byte
  | none => List.replicate 13 255
  | some w => w.note.item ++ num1 w.slot ++ num1 w.priority

/-- A holder as it is answered: the slot and the class priority (R65, R67); all ones for none (log 16). -/
def Holder.item : Holder → List Byte
  | .none => [255, 255]
  | .perf n priority => num1 n ++ num1 priority
  | .panel => num1 Holder.panel.code ++ num1 4

/-- A bell channel (R64, R65). -/
def channelItem (k : ChannelConfig) (c : Channel) : List Byte :=
  optNum 1 k.bell ++ bytesOf 2 k.lead ++ num1 k.width1 ++ num1 k.width2 ++ num1 k.width3 ++ num1 k.width4
    ++ bytesOf 2 k.interval ++ num1 c.state.code ++ optRun c.lastLaunch ++ c.holder.item ++ waitingItem c.waiting
    ++ [flagByte c.isProtected, flagByte c.openPhrase]

/-- A dial (R139, R140). -/
def dialItem (k : DialConfig) (d : Dial) : List Byte :=
  [flagByte k.used] ++ bytesOf 2 k.width ++ num1 k.interval ++ num1 k.current ++ num1 d.state.code ++ optNum 2 d.position
    ++ num1 d.polarity.code ++ num1 d.misses ++ bytesOf 2 d.seeks ++ optRun d.lastBegin ++ optRun d.pulseEnd
    ++ num1 d.draw.code ++ optRun d.renewalDue

/-- A circuit (R155, R156). -/
def circuitItem (k : CircuitConfig) (c : Circuit) : List Byte :=
  optNum 1 k.light ++ num1 k.inrush ++ num1 k.hold ++ num1 k.steady ++ [flagByte k.feedback] ++ num1 c.state.code
    ++ [flagByte c.closed, flagByte c.wanted] ++ optRun c.startEnd ++ optRun c.checkDue ++ num1 c.draw.code
    ++ optRun c.renewalDue

/-- The time left before a heard entry expires (R163), as seconds and cycles (log 16). -/
def DrawEntry.timeLeft (e : DrawEntry) (now : RunTime) : Option RunTime :=
  if e.own then none else e.announced.map fun t => RunTime.ofCycles (now.elapsed (t.plus (secCycles e.hold)))

/-- A draw list entry (R163). -/
def DrawEntry.item (e : DrawEntry) (now : RunTime) : List Byte :=
  num1 e.station ++ num1 e.id ++ num1 e.amount ++ num1 (if e.own then 0 else 1) ++ num1 e.hold ++ optRun e.announced
    ++ optRun (e.timeLeft now)

/-- A last-fired record (R123); one that is none takes the eight bytes of a filled one, all ones (log 16). -/
def firedItem : Option LastFired → List Byte
  | none => List.replicate 8 255
  | some l => runBytes l.run ++ bytesOf 2 l.minute

/-- A calendar slot with its last-fired records (R123). -/
def CalendarSlot.item (c : CalendarSlot) : List Byte := c.entry.bytes ++ c.fired.flatMap firedItem

/-- A tune directory entry as READ_ITEM gives it: the ten stored bytes, and the received note count, which no block stores
(R115, R116, log 16). -/
def Tune.item (t : Tune) : List Byte := t.bytes ++ bytesOf 2 t.received

/-- What a table holds at an index: no such index, or an item that may be empty (R188). -/
def indexed (bound i : Nat) (item : Option (List Byte)) : Option (Option (List Byte)) := if i < bound then some item else none

/-- The item of a table at an index, but for notes (R188, 11.3). The draw list stands in the order in which its entries were
made, own and heard in one, and a removal moves the later ones down (R163, log 16). A scene is four bytes, an empty set too (log 16). -/
def Station.item (s : Station) (table i : Nat) : Option (Option (List Byte)) :=
  match table with
  | 0 => indexed 15 i ((s.peer i).map Peer.item)
  | 1 => if i < 6 then some ((s.record i).map Record.item)
         else indexed 14 i (s.pf.recent[i - 6]?.map fun k => k.item s.tb.run)
  | 2 => indexed 8 i (some (channelItem (s.channelCfg i) (s.channel i)))
  | 3 => if decide (i / 256 < 8) && decide (i % 256 < 12) then
           some ((s.channel (i / 256)).queue[i % 256]?.map StrikeEntry.item) else none
  | 4 => indexed 4 i (some (dialItem (s.dialCfg i) (s.dial i)))
  | 5 => indexed 6 i (some (circuitItem (s.circuitCfg i) (s.circuit i)))
  | 6 => indexed 48 i (s.sup.draws[i]?.map fun e => e.item s.tb.run)
  | 7 => indexed 64 i ((s.pg.tunes.getD i none).map Tune.item)
  | 9 => indexed 96 i ((s.pg.calendar.getD i none).map CalendarSlot.item)
  | 10 => indexed 46 i ((s.pg.dusk.getD i none).map fun m => bytesOf 2 m)
  | 11 => indexed 16 i (some (bytesOf 4 (s.pg.sceneSet i).toNat))
  | 12 => indexed 13 i (some (bytesOf 2 (s.panel.counters.getD i 0)))
  | _ => none

/-- The note of a tune at a position (R188): positions up to 2,047 can be read. -/
def Station.noteItem (s : Station) (tune position : Nat) : Option (Option (List Byte)) :=
  if decide (1 ≤ tune) && decide (tune ≤ 250) && decide (position < 2048) then
    some ((s.pg.noteOf tune position).map Note.bytes) else none

/-- A part of an item: eight bytes or what is left of it; an empty item is one byte of all ones (11.3, R195). -/
def partOf (item : Option (List Byte)) (part : Nat) : Option (List Byte) :=
  let bs := item.getD [255]
  if 8 * part < bs.length then some ((bs.drop (8 * part)).take 8) else none

/-- The part a READ_ITEM request names (R188). -/
def Station.readPart (s : Station) (args : List Byte) : Option (List Byte) :=
  if byteAt args 0 = 8 then (s.noteItem (byteAt args 1) (word16 args 2)).bind fun it => partOf it (byteAt args 4)
  else (s.item (byteAt args 0) (word16 args 1)).bind fun it => partOf it (byteAt args 3)

/-- Argument bytes a READ_ITEM needs (11.3): one more for notes. -/
def readNeeds (args : List Byte) : Nat := if byteAt args 0 = 8 then 5 else 4

end Sys2Proof.Machine
end

