-- ==== Sys2Proof/Machine/Requests.lean ====
section
/-! DEFINITION. How an ASK is taken and answered (R185, R186), and what each request does in its owning block. -/

namespace Sys2Proof.Machine

/-! ## Taking and answering (R185) -/

/-- What an owning block returns: the station after, the outcome, and the data of a read. -/
structure Reply where
  st : Station
  outcome : ReqOutcome
  data : List Byte

/-- A reply without data. -/
def Station.reply (s : Station) (o : ReqOutcome) : Reply := { st := s, outcome := o, data := [] }

/-- An ANSWER is queued when the target was the station's own number (R185). -/
def Station.answer (s : Station) (a : Ask) (code : Nat) (o : ReqOutcome) (data : List Byte) : Station :=
  if a.target = s.cfg.number then (s.enqueue (.answer a.asker a.seq code o data false)).1 else s

/-- An ASK that the panel service takes (R185): the frame has been received good, the station is RUNNING, and the target is
the station or 15. -/
def Station.takeAsk (s : Station) (a : Ask) (act : Station → Capture → Station) : Station :=
  match s.receive a.asker with
  | (s1, none) => s1
  | (s1, some c) => if s1.running && (decide (a.target = s1.cfg.number) || decide (a.target = 15)) then act s1 c else s1

/-- A request with its ANSWER (R185): RANGE when the arguments are too short, or the owner's outcome. -/
def Station.request (s : Station) (a : Ask) (code need : Nat) (args : List Byte) (act : Station → Capture → Reply) : Station :=
  s.takeAsk a fun t c =>
    if args.length < need then t.answer a code .range []
    else (act t c).st.answer a code (act t c).outcome (act t c).data

/-- The load refusals counter of a loading or WRITE_ITEM request (R117, R125). -/
def Reply.counted (r : Reply) : Reply :=
  if r.outcome = .done then r else { r with st := r.st.bump .loadRefusals }

/-- A loading or WRITE_ITEM request (R117, R125): every outcome but DONE is counted, one for want of arguments too (log 17). -/
def Station.loadRequest (s : Station) (a : Ask) (code need : Nat) (args : List Byte) (act : Station → Reply) : Station :=
  s.request a code 0 args fun t _ => (if args.length < need then t.reply .range else act t).counted

/-! ## Reads and the summary (R16, R187 to R189) -/

/-- A read: data, or RANGE. -/
def Station.readReply (s : Station) (data : Option (List Byte)) : Reply :=
  match data with
  | some d => { st := s, outcome := .done, data := d }
  | none => s.reply .range

/-- The summary is read and cleared (R189). -/
def Station.clearSummary (s : Station) : Reply :=
  { st := { s with panel := { s.panel with summary := 0 } }, outcome := .done, data := s.summaryData }

/-! ## SET_TIME (R40) -/

/-- SET_TIME (R40), with the holdover it may enter (R30). -/
def Station.setTime (s : Station) (c : Capture) (t : TowerTime) : Reply :=
  if Config.usPerDay ≤ t.us then s.reply .range
  else if s.ag.refState = .locked then s.reply .state
  else
    let s1 := s.applyStep (t.diff c.time)
    (((if s.tb.valid then s1 else s1.noteHoldover)).select.1).reply .done

/-! ## Programme requests (R117 to R121, R125, R135, R194) -/

/-- A record in the performance table refers to a tune (R118). -/
def Performances.refersTo (p : Performances) (number : Nat) : Bool :=
  p.table.any fun r => match r with
    | none => false
    | some x => (decide (x.key.cls = .tune) || decide (x.key.cls = .quarter)) && decide (x.key.number = number)

/-- A tune number is in range (R115). -/
def tuneNumber (n : Nat) : Bool := decide (1 ≤ n) && decide (n ≤ 250)

/-- The programme store with the open tune discarded when it is another tune (R118 step 1), whatever records refer to it
(R122, log 52). -/
def Programme.discardOther (p : Programme) (number : Nat) : Programme :=
  match p.opened with
  | none => p
  | some o => if o.tune = number then p else p.removeTune o.tune

/-- The directory entry for a tune to be opened: its own, or the first empty one (R118 steps 2 and 3). -/
def Programme.entryFor (p : Programme) (number : Nat) : Option Nat :=
  match p.tuneIndex number with
  | some i => some i
  | none => p.tunes.findIdx? (·.isNone)

/-- OPEN_TUNE that is taken (R118). -/
def Programme.openTune (p : Programme) (number length beat : Nat) : Programme :=
  let p1 := p.discardOther number
  let at? := p1.entryFor number
  let p2 := p1.removeTune number
  match at? with
  | none => p2
  | some i =>
      { p2 with
        tunes := p2.tunes.set i (some
          { number := number, length := length, beat := beat, own := 0, received := 0, first := p2.notes.length, state := .opened })
        opened := some { tune := number, lastOffset := none, loss := false } }

/-- Every directory entry is in use by some tune other than an open tune (R118). -/
def Programme.directoryFull (p : Programme) : Bool :=
  p.tunes.all fun t => match t with
    | none => false
    | some t => decide (t.state ≠ .opened)

/-- OPEN_TUNE (R118). -/
def Station.openTune (s : Station) (number length beat : Nat) : Reply :=
  if !(tuneNumber number && decide (1 ≤ length) && decide (length ≤ 4096) && decide (150 ≤ beat) && decide (beat ≤ 2000)) then
    s.reply .range
  else if s.pg.storing.isSome then s.reply .busy
  else if (s.pg.tune number).isSome && s.pf.refersTo number then s.reply .state
  else if (s.pg.tune number).isNone && s.pg.directoryFull then s.reply .full
  else ({ s with pg := s.pg.openTune number length beat } : Station).reply .done

/-- A note's fields are in range and its offset not below the last (R119). -/
def noteInRange (n : Note) (last : Option Nat) : Bool :=
  decide (1 ≤ n.bell) && decide (n.bell ≤ 64) && decide (1 ≤ n.velocity) && decide (n.velocity ≤ 4)
    && decide (last.getD 0 ≤ n.offset)

/-- The open tune's directory entry changes. -/
def Programme.modifyTune (p : Programme) (number : Nat) (f : Tune → Tune) : Programme :=
  { p with tunes := p.tunes.map fun t => t.map fun u => if u.number = number then f u else u }

/-- One more note received; the count saturates (R115). -/
def Tune.receive (t : Tune) : Tune := { t with received := saturate t.received }

/-- One more own note (R119). -/
def Tune.keep (t : Tune) : Tune := { t with own := t.own + 1 }

/-- The state a tune is closed in (R120): with the loss mark set it is INCOMPLETE, with an own note count of 0 too (log 45). -/
def Tune.close (loss : Bool) (t : Tune) : Tune := { t with state := if loss then .incomplete else .ready }

/-- Replace the programme store. -/
def Station.putProgramme (s : Station) (p : Programme) : Station := { s with pg := p }

/-- One note of ADD_NOTES (R119). -/
def Station.addNote (s : Station) (o : OpenTune) (n : Note) : Station × ReqOutcome :=
  if !noteInRange n o.lastOffset then (s, .range)
  else
    let o' : OpenTune := { o with lastOffset := some n.offset }
    let p := s.pg.modifyTune o.tune Tune.receive
    if !s.cfg.isOwn n.bell then ((s.putProgramme { p with opened := some o' }).bump .foreignNotes, .done)
    else if o.loss || decide (2048 ≤ p.notes.length) then
      (s.putProgramme { p with opened := some { o' with loss := true } }, .full)
    else (s.putProgramme { p.modifyTune o.tune Tune.keep with notes := p.notes ++ [n], opened := some o' }, .done)

/-- The worse of two notes' outcomes (R119). -/
def worseNote (a b : ReqOutcome) : ReqOutcome :=
  if a = .range ∨ b = .range then .range else if a = .full ∨ b = .full then .full else .done

/-- The notes of an ADD_NOTES: a second one when eight bytes of notes have come (11.3). -/
def notesIn (args : List Byte) : List Note :=
  noteAt args 1 :: (if 9 ≤ args.length then [noteAt args 5] else [])

/-- The notes taken one after the other (R119). -/
def Station.addAll (s : Station) (worst : ReqOutcome) : List Note → Reply
  | [] => s.reply worst
  | n :: rest =>
      match s.pg.opened with
      | none => s.reply .state
      | some o => (s.addNote o n).1.addAll (worseNote worst (s.addNote o n).2) rest

/-- ADD_NOTES (R119). -/
def Station.addNotes (s : Station) (number : Nat) (notes : List Note) : Reply :=
  if s.pg.storing.isSome then s.reply .busy
  else if s.pg.opened.map (·.tune) = some number then s.addAll .done notes
  else s.reply .state

/-- CLOSE_TUNE (R120). -/
def Station.closeTune (s : Station) (number : Nat) : Reply :=
  if s.pg.storing.isSome then s.reply .busy
  else match s.pg.opened with
    | none => s.reply .state
    | some o =>
        if o.tune = number then
          ({ s with pg := { s.pg.modifyTune number (Tune.close o.loss) with
              opened := none } } : Station).reply .done
        else s.reply .state

/-- DELETE_TUNE (R117, R121), a STORE in flight looked at first (log 17). -/
def Station.deleteTune (s : Station) (number : Nat) : Reply :=
  if s.pg.storing.isSome then s.reply .busy
  else if !tuneNumber number then s.reply .range
  else if (s.pg.tune number).isNone || s.pf.refersTo number then s.reply .state
  else
    let p := s.pg.removeTune number
    (s.putProgramme (if s.pg.opened.map (·.tune) = some number then { p with opened := none } else p)).reply .done

/-- The item table a WRITE_ITEM names (11.3). -/
def itemTable (args : List Byte) : Nat := byteAt args 0 / 16

/-- The part a WRITE_ITEM names (11.3). -/
def itemPart (args : List Byte) : Nat := byteAt args 0 % 16

/-- The first seven bytes of a calendar write's contents. -/
def contentsOf (args : List Byte) : List Byte := (args.drop 2).take 7

/-- A calendar write (R125, R194): the slot number, then a STORE in flight, then the part and the contents (log 17). -/
def Station.writeCalendar (s : Station) (asker slot part : Nat) (args : List Byte) : Reply :=
  if 95 < slot then s.reply .range
  else if s.pg.storing.isSome then s.reply .busy
  else match part with
    | 0 => (s.putProgramme { s.pg with staging := some ⟨asker, slot, contentsOf args⟩ }).reply .done
    | 1 =>
        match s.pg.staging with
        | none => s.reply .state
        | some g =>
            if g.asker = asker ∧ g.slot = slot then
              (match slotOf (g.bytes ++ contentsOf args) with
               | none => (s.putProgramme { s.pg with staging := none }).reply .range
               | some c => (s.putProgramme { s.pg with staging := none, calendar := s.pg.calendar.set slot c }).reply .done)
            else s.reply .state
    | _ => s.reply .range

/-- A dusk write (R125, R194): the index, then a STORE in flight, then the part and the value (log 17). -/
def Station.writeDusk (s : Station) (index part : Nat) (args : List Byte) : Reply :=
  if 45 < index then s.reply .range
  else if s.pg.storing.isSome then s.reply .busy
  else if decide (part ≠ 0) || decide (1439 < word16 args 2) then s.reply .range
  else ({ s with pg := { s.pg with dusk := s.pg.dusk.set index (some (word16 args 2)) } } : Station).reply .done

/-- The scene set of four bytes (11.4). -/
def sceneOf (args : List Byte) : BitVec 32 := BitVec.ofNat 32 (word16 args 2 * 65536 + word16 args 4)

/-- A scene write (R125, R194): the scene, then a STORE in flight, then the part (log 17); the 32-bit set names lights 1 to 32
alone. -/
def Station.writeScene (s : Station) (scene part : Nat) (args : List Byte) : Reply :=
  if decide (scene = 0) || decide (15 < scene) then s.reply .range
  else if s.pg.storing.isSome then s.reply .busy
  else if part ≠ 0 then s.reply .range
  else ({ s with pg := { s.pg with scenes := s.pg.scenes.set scene (sceneOf args) } } : Station).reply .done

/-- STORE (R135): refused, or in flight, its ANSWER to come. -/
def Station.beginStore (s : Station) (a : Ask) : Station :=
  if s.pg.storing.isSome then s.answer a 10 .busy []
  else if s.pg.opened.isSome then s.answer a 10 .state []
  else s.putProgramme
    { s.pg with storing := some ⟨if a.target = s.cfg.number then some (a.asker, a.seq) else none⟩ }

/-- The ANSWER of a STORE that has completed (R135, R185). -/
def Station.answerStore (s : Station) (whom : Option (Nat × Nat)) (o : ReqOutcome) : Station :=
  match whom with
  | none => s
  | some (asker, seq) => (s.enqueue (.answer asker seq 10 o [] false)).1

/-- What a STORE's completion does to the station (R135). -/
def Station.endStore (s : Station) (f : StoreInFlight) (failed : Bool) : Station :=
  let s' : Station := { s with pg := { s.pg with storing := none } }
  if failed then (s'.raise .storeFail).answerStore f.answerTo .state else s'.answerStore f.answerTo .done

/-! ## Performance requests (R92, R111) -/

/-- The key of a START and the beat and length it plays (R92); none when its arguments are out of range. -/
def startKey (args : List Byte) (t : TowerTime) : Option (Key × Nat × Nat) :=
  match byteAt args 0 with
  | 0 => if tuneNumber (byteAt args 1) then some (⟨.tune, byteAt args 1, 0, t.day, t.minute⟩, word16 args 2, 0) else none
  | 1 => if decide (1 ≤ byteAt args 1) && decide (byteAt args 1 ≤ 64) then
           some (⟨.toll, byteAt args 1, 0, t.day, t.minute⟩, word16 args 2, byteAt args 4) else none
  | _ => none

/-- Argument bytes a START needs (11.3). -/
def startNeeds (args : List Byte) : Nat := if byteAt args 0 = 1 then 5 else 4

/-- START (R92). -/
def Station.startRequest (s : Station) (c : Capture) (args : List Byte) : Reply :=
  match startKey args c.time with
  | none => s.reply .range
  | some (k, beat, count) =>
      let start := c.time.plus ((s.cfg.cueLead * 1000 : Nat) : Int)
      if !s.cfg.cueCapable || s.pf.silenced || !s.tb.valid then s.reply .state
      else if k.cls = .toll then { st := (s.originate k start beat count).1, outcome := (s.originate k start beat count).2, data := [] }
      else match s.playable k.number with
        | none => s.reply .state
        | some t =>
            let out := s.originate k start (if beat = 0 then t.beat else beat) t.length
            { st := out.1, outcome := out.2, data := [] }

/-- A HALT that the station has applied goes to the tower (R111). -/
def Station.sendHalt (s : Station) (h : HaltScope) : Reply := ((s.enqueue (.halt h)).1).reply .done

/-! ## Hammer, dial, light requests (R79, R80, R151, R157) -/

/-- STRIKE (R80). -/
def Station.strike (s : Station) (c : Capture) (bell velocity delay : Nat) : Reply :=
  if decide (bell = 0) || decide (64 < bell) || decide (velocity = 0) || decide (4 < velocity) || decide (60000 < delay) then
    s.reply .range
  else match s.cfg.channelOf bell with
    | none => s.reply .state
    | some ch =>
        let x := s.channel ch
        if s.pf.silenced || decide (x.state = .faulted) || decide (x.holder ≠ .none) || x.waiting.isSome then s.reply .state
        else
          let target := c.time.plus (((delay + (s.channelCfg ch).lead) * 1000 : Nat) : Int)
          (s.setChannel ch { x with
            holder := .panel
            queue := [{ target := target, owner := .panel, velocity := velocity, phrase := .none, late := .panel }] }).reply .done

/-- RECHECK (R79). -/
def Station.recheck (s : Station) (ch : Nat) : Reply :=
  if 7 < ch then s.reply .range
  else if decide ((s.channel ch).state = .faulted) && s.showsRest ch then
    (s.setChannel ch (s.channel ch).recheck).reply .done
  else s.reply .state

/-- LIGHT_SCENE (R157). -/
def Station.lightScene (s : Station) (scene : Nat) : Reply := if 15 < scene then s.reply .range else (s.panelScene scene).reply .done

/-- The position a DIAL_SET names: 65,535 is UNKNOWN (11.3). -/
def dialPosition (n : Nat) : Option Nat := if n = 65535 then none else some n

/-- DIAL_SET (R151). -/
def Station.dialSet (s : Station) (d position : Nat) : Reply :=
  if decide (3 < d) || (decide (1439 < position) && decide (position ≠ 65535)) then s.reply .range
  else if (s.dial d).state = .unused then s.reply .state
  else if (s.dial d).pulseEnd.isSome then s.reply .busy
  else ((s.setDial d ((s.dial d).setTo (dialPosition position))).evaluateDial d).reply .done

/-- RESTART (R183): the restart follows the ANSWER's report; without an ANSWER, or with a refused one, it is made at once. -/
def Station.askRestart (s : Station) (a : Ask) : Station :=
  if a.target = s.cfg.number then
    match s.enqueue (.answer a.asker a.seq 20 .done [] true) with
    | (s', true) => s'
    | (s', false) => s'.restart
  else s.restart

end Sys2Proof.Machine
end

