-- ==== Sys2Proof/Machine/Ticks.lean ====
section
/-! DEFINITION. The crystal cycle and the boundary events (R1, R4, R14, R18): what each boundary does when it is taken. -/

namespace Sys2Proof.Machine

/-- A mark moment of the local second is armed while the time is unset (R21). -/
def Station.armRunMark (s : Station) : Station :=
  if s.running && !s.tb.valid then
    { s with ag := { s.ag with armed := (s.cfg.markInRun s.tb.run.sec).map MarkMoment.run } }
  else s

/-- The backup-valid flag is set in RUNNING (R177, log 28). -/
def Station.renewBackup (s : Station) : Station :=
  if s.running && s.seq.supplyGood && s.lines.backup then { s with seq := { s.seq with backupValid := true } } else s

/-- The once-per-second work of the light and supply unit (R165, R167, R171), in the order of log 46. -/
def Station.secondWork (s : Station) : Station :=
  if s.inService then (s.retryFrees s.sup.frees).checkIncomplete.placementCheck else s

/-- A local second boundary, if one has been raised (R5 to R8). -/
def Station.localSecond (s : Station) : Station :=
  if s.tb.secondDue then
    (({ s with tb := s.tb.openSecond } : Station).armRunMark.renewBackup).secondWork
  else s

/-- A second boundary of the backup domain, if one has been raised (R18). -/
def Station.backupSecond (s : Station) : Station :=
  if s.tb.backupDue then { s with tb := s.tb.openBackupSecond } else s

/-- A tower second, if one has been raised: the mark moment in it is armed (R21). -/
def Station.towerSecond (s : Station) : Station :=
  match s.tb.towerSecondDue with
  | none => s
  | some t =>
      let s' : Station := { s with tb := { s.tb with towerSecondDue := none } }
      if s.running && s.tb.valid then
        { s' with ag := { s'.ag with armed := (s.cfg.markIn t.day t.second).map MarkMoment.tower } }
      else s'

/-- A 30-s dial boundary, if one has been raised (R141). -/
def Station.dialBoundary (s : Station) : Station :=
  match s.tb.dialDue with
  | none => s
  | some _ => ({ s with tb := { s.tb with dialDue := none } } : Station).evaluateDials

/-- A civil minute, if one has been raised (R126). -/
def Station.civilMinute (s : Station) : Station :=
  match s.tb.minuteDue with
  | none => s
  | some b => ({ s with tb := { s.tb with minuteDue := none } } : Station).scanMinute b

/-- A civil quarter, if one has been raised: the performance unit takes it (R14, R103). -/
def Station.civilQuarter (s : Station) : Station :=
  match s.tb.quarterDue with
  | none => s
  | some q => { s with tb := { s.tb with quarterDue := none }, pf := { s.pf with quarter := some q } }

/-- A civil hour, if one has been raised (R103). -/
def Station.civilHour (s : Station) : Station :=
  match s.tb.hourDue with
  | none => s
  | some h => ({ s with tb := { s.tb with hourDue := none } } : Station).strikeHour h

/-- Boundary events raised and not yet taken are taken before time goes on, in one order (log 4). -/
def Station.takeBoundaries (s : Station) : Station :=
  s.localSecond.backupSecond.towerSecond.dialBoundary.civilQuarter.civilHour.civilMinute

/-- One crystal cycle of the time base in the run state of the station (R4, R18). -/
def Station.advance (s : Station) : Station :=
  if s.seq.state = .supplyWait then { s with tb := s.tb.backupCycle }
  else { s with tb := s.tb.cycle (s.running && s.tb.valid) }

/-- The input lines on a cycle (R76, R149, R162, R177): filters stand without supply, and a low backup supply clears the
backup-valid flag. -/
def Station.sample (s : Station) (inp : Inputs) : Station :=
  { s with
    lines := if s.seq.state = .supplyWait then { s.lines with backup := inp.backup } else s.lines.sample inp
    seq := if inp.backup then s.seq else { s.seq with backupValid := false } }

/-- A crystal cycle (R1, R4). -/
def Station.crystalCycle (s : Station) (inp : Inputs) : Station := s.takeBoundaries.advance.sample inp

end Sys2Proof.Machine
end

