-- ==== Sys2Proof/Machine/Commands.lean ====
section
/-! DEFINITION. How a command of the station makes its next state, and the guards that the families share. -/

namespace Sys2Proof.Machine

/-- A next state in which the station alone has changed; a restart whose ANSWER this command reported is made with it (R183), when
all else that the command does is done (log 62). -/
def State.run (s : State) (f : Station → Station) : Host.Outcome State Fault Refusal :=
  .next { s with st := (f s.st).restartIfDue }

/-- A moment in run time that may be set has been reached (R1). -/
def Station.past (s : Station) (due : Option RunTime) : Bool :=
  match due with
  | none => false
  | some d => d.reached s.tb.run

/-- The effect of a command whose occasion may not hold: without it the command changes nothing (log 2). -/
def Station.onlyIf (s : Station) (occasion : Bool) (effect : Station → Station) : Station :=
  if occasion then effect s else s

end Sys2Proof.Machine
end

