-- ==== Sys2Proof/Machine/AgreementCommands.lean ====
section
/-! DEFINITION. The commands of the agreement unit (02_keeping_stations_in_agreement.md). -/

namespace Sys2Proof.Machine

/-- MARK_RECEIVED (R23, R24, R41, R61). -/
def execMarkReceived (src : Nat) (payload : List Byte) (s : State) : Host.Outcome State Fault Refusal :=
  s.run fun t => t.receiveMark src payload

/-- The entry of a peer expires 3P after its last MARK (R25). -/
def Station.peerExpired (s : Station) (n : Nat) : Bool :=
  match s.peer n with
  | none => false
  | some p => (p.markRun.plus (secCycles (3 * s.cfg.markPeriod))).reached s.tb.run

/-- The entry becomes absent, and the source selection runs (R25, R28). -/
def Station.expirePeer (s : Station) (n : Nat) : Station := ((s.setPeer n none).select).1

/-- PEER_EXPIRY (R25). -/
def execPeerExpiry (peer : Nat) (s : State) : Host.Outcome State Fault Refusal :=
  s.run fun t => t.onlyIf (t.inService && t.peerExpired peer) fun u => u.expirePeer peer

/-- Pulses and messages of the reference are taken (R37). -/
def Station.takesReference (s : Station) : Bool := s.inService && decide (s.ag.refState ≠ .absent)

/-- A good reference message becomes pending (R36). -/
def Station.takeMessage (s : Station) (bytes : List Byte) : Station :=
  { s with ag := { s.ag with message := some { day := word16 bytes 1, minute := word16 bytes 3, ended := s.tb.run } } }

/-- REFERENCE_MESSAGE (R36, R37). -/
def execReferenceMessage (bytes : List Byte) (framed : Bool) (s : State) : Host.Outcome State Fault Refusal :=
  s.run fun t => t.onlyIf (t.takesReference && messageGood bytes framed) fun u => u.takeMessage bytes

/-- The pending message has seen 900 ms without a pulse (R36). -/
def Station.messageExpired (s : Station) : Bool :=
  match s.ag.message with
  | none => false
  | some m => m.ended.lasted s.tb.run 900

/-- The pending message is discarded (R36, R37). -/
def Station.dropMessage (s : Station) : Station := { s with ag := { s.ag with message := none } }

/-- REFERENCE_MESSAGE_EXPIRY (R36). -/
def execReferenceMessageExpiry (s : State) : Host.Outcome State Fault Refusal :=
  s.run fun t => t.onlyIf t.messageExpired Station.dropMessage

/-- A pulse that is taken: the pending message is consumed or discarded, and a valid minute is taken (R37 to R39, R41). -/
def Station.takePulse (s : Station) : Station :=
  match s.ag.message.bind fun m => m.minuteAt s.tb.run with
  | none => s.dropMessage
  | some m => (s.dropMessage.takeMinute m).1.acquired (s.dropMessage.takeMinute m).2

/-- REFERENCE_PULSE (R37). -/
def execReferencePulse (s : State) : Host.Outcome State Fault Refusal := s.run fun t => t.onlyIf t.takesReference Station.takePulse

/-- 150 s have passed since the pulse of the last accepted minute (R39). -/
def Station.referenceStale (s : Station) : Bool :=
  decide (s.ag.refState = .locked) && s.past (s.ag.lastMinute.map fun m => m.run.plus (secCycles 150))

/-- REFERENCE_LOST (R39). -/
def execReferenceLost (s : State) : Host.Outcome State Fault Refusal :=
  s.run fun t => t.onlyIf (t.inService && t.referenceStale) Station.loseReference

/-- SET_TIME (R40). -/
def execSetTime (a : Ask) (args : List Byte) (s : State) : Host.Outcome State Fault Refusal :=
  s.run fun t => t.request a 3 7 args fun u c => u.setTime c { day := word16 args 0, us := word40 args 2 }

end Sys2Proof.Machine
end

