-- ==== Sys2Proof/Machine/BusCommands.lean ====
section
/-! DEFINITION. The commands of the line and of own frames (03_the_tower_bus.md). -/

namespace Sys2Proof.Machine

/-- An armed mark moment has been reached, in tower or run time (R3, R21). -/
def Station.markReached (s : Station) : Bool :=
  match s.ag.armed with
  | none => false
  | some (.tower t) => s.tb.now.atOrAfter t
  | some (.run t) => t.reached s.tb.run

/-- A mark moment is reached: a MARK is queued while RUNNING (R21, R58). -/
def Station.markMoment (s : Station) : Station :=
  let s' : Station := { s with ag := { s.ag with armed := none } }
  if s'.running then (s'.enqueue (.mark none)).1 else s'

/-- MARK_MOMENT (R21). -/
def execMarkMoment (s : State) : Host.Outcome State Fault Refusal :=
  s.run fun t => t.onlyIf t.markReached Station.markMoment

/-- START_BIT (R45, R48, R54). -/
def execStartBit (own : Bool) (recessive : Nat) (s : State) : Host.Outcome State Fault Refusal :=
  s.run fun t => t.startBit own recessive

/-- ARBITRATION_LOST (R49). -/
def execArbitrationLost (s : State) : Host.Outcome State Fault Refusal := s.run Station.loseArbitration

/-- ATTEMPT_ERROR (R51 to R54, R59): the three errors count alike. -/
def execAttemptError (e : TxError) (s : State) : Host.Outcome State Fault Refusal :=
  s.run fun t => match e with
    | .bit | .form | .brk => t.failAttempt

/-- ATTEMPT_COMPLETE_HEARD (R50, R53, R59). -/
def execAttemptCompleteHeard (s : State) : Host.Outcome State Fault Refusal := s.run Station.completeHeard

/-- ATTEMPT_COMPLETE_UNHEARD (R50, R59). -/
def execAttemptCompleteUnheard (s : State) : Host.Outcome State Fault Refusal := s.run Station.completeUnheard

/-- RECEIVE_ERROR (R51 to R53). -/
def execReceiveError (bits : List Bool) (s : State) : Host.Outcome State Fault Refusal := s.run fun t => t.receiveError bits

/-- BREAK_RECEIVED (R45, R52). -/
def execBreakReceived (s : State) : Host.Outcome State Fault Refusal := s.run Station.receiveBreak

/-- MUTE_RECOVERY (R55). -/
def execMuteRecovery (bits : List Bool) (s : State) : Host.Outcome State Fault Refusal := s.run fun t => t.recover bits

/-- ANSWER_RECEIVED (R50, R53, R61, R62): the frame counts as good and is discarded. -/
def execAnswerReceived (src : Nat) (_payload : List Byte) (s : State) : Host.Outcome State Fault Refusal :=
  s.run fun t => (t.receive src).1

/-- FRAME_DISCARDED (R50, R53, R61, R62): the frame counts as good and is discarded. -/
def execFrameDiscarded (src : Nat) (s : State) : Host.Outcome State Fault Refusal := s.run fun t => (t.receive src).1

end Sys2Proof.Machine
end

