-- ==== Sys2Proof/Machine/DialCommands.lean ====
section
/-! DEFINITION. The commands of the dial unit (07_dials.md). -/

namespace Sys2Proof.Machine

/-- DIAL_PULSE_BEGIN (R143, R146). -/
def execDialPulseBegin (dial : Nat) (s : State) : Host.Outcome State Fault Refusal :=
  s.run fun t => t.onlyIf (t.dialPulseDue dial) fun u => u.beginPulse dial

/-- DIAL_PULSE_END (R143, R149, R150). -/
def execDialPulseEnd (dial : Nat) (s : State) : Host.Outcome State Fault Refusal :=
  s.run fun t => t.onlyIf (t.inService && t.past (t.dial dial).pulseEnd) fun u => u.dialPulseOver dial

/-- The live draw of a dial is due for renewal (R147). -/
def Station.dialRenewalDue (s : Station) (d : Nat) : Bool :=
  s.inService && decide ((s.dial d).draw = .live) && s.past (s.dial d).renewalDue

/-- A dial's live draw is renewed, and the next renewal falls due 60 s on (R147, R170). -/
def Station.renewDial (s : Station) (d : Nat) : Station :=
  (s.setDial d { s.dial d with renewalDue := (s.dial d).renewalDue.map fun t => t.plus (secCycles 60) }).renewDraw (dialDrawId d)
    (s.dialRenewalHold d)

/-- DIAL_RENEWAL_DUE (R147, R170). -/
def execDialRenewalDue (dial : Nat) (s : State) : Host.Outcome State Fault Refusal :=
  s.run fun t => t.onlyIf (t.dialRenewalDue dial) fun u => u.renewDial dial

/-- DIAL_SET (R151): one whose target is 15 is received and not taken. -/
def execDialSet (a : Ask) (args : List Byte) (s : State) : Host.Outcome State Fault Refusal :=
  s.run fun t => t.takeAsk a fun u _ =>
    if a.target = u.cfg.number then
      if args.length < 3 then u.answer a 17 .range []
      else (u.dialSet (byteAt args 0) (word16 args 1)).st.answer a 17 (u.dialSet (byteAt args 0) (word16 args 1)).outcome []
    else u

end Sys2Proof.Machine
end

