-- ==== Sys2Proof/Machine/HammerCommands.lean ====
section
/-! DEFINITION. The commands of the strike unit (04_bells_hammers_and_strike_queues.md). -/

namespace Sys2Proof.Machine

/-! ## Launches and late limits (R69, R71, R72) -/

/-- The sound moment of a launch made now (R71). -/
def Station.soundMoment (s : Station) (ch : Nat) : TowerTime := s.tb.now.plus (((s.channelCfg ch).lead * 1000 : Nat) : Int)

/-- The head entry of a channel is launched (R71). -/
def Station.launchHead (s : Station) (ch : Nat) : Station :=
  match (s.channel ch).queue with
  | [] => s
  | e :: rest =>
      s.channelEvent ch ((s.channel ch).launch ch e rest (s.channelCfg ch) s.tb.run (s.reportedLateness ch e) (s.soundMoment ch))

/-- HAMMER_LAUNCH (R71, R74). -/
def execHammerLaunch (channel : Nat) (s : State) : Host.Outcome State Fault Refusal :=
  s.run fun t => t.onlyIf (t.running && t.mayLaunch channel && t.slotFree channel) fun u => u.launchHead channel

/-- The head entry of a channel is past its late limit (R72); one still ahead of its launch moment is not. -/
def Station.headTooLate (s : Station) (ch : Nat) : Bool :=
  match (s.channel ch).queue with
  | [] => false
  | e :: _ => e.late.tooLate (s.latenessOf ch e)

/-- A late drop is counted and flagged (R69, R72). -/
def Station.lateDrop (s : Station) : Station := (s.bump .lateDrops).raise .lateDrop

/-- The head entry of a channel is dropped late (R72). -/
def Station.dropLateHead (s : Station) (ch : Nat) : Station :=
  match (s.channel ch).queue with
  | [] => s
  | e :: rest => s.lateDrop.channelEvent ch ((s.channel ch).dropHead ch e rest)

/-- LATE_LIMIT_EXPIRY (R72). -/
def execLateLimitExpiry (channel : Nat) (s : State) : Host.Outcome State Fault Refusal :=
  s.run fun t => t.onlyIf (t.running && t.headTooLate channel) fun u => u.dropLateHead channel

/-- The waiting note of a channel is past its late limit (R69). -/
def Station.noteTooLate (s : Station) (ch : Nat) : Bool :=
  match (s.channel ch).waiting with
  | none => false
  | some w => w.note.late.tooLate (s.latenessOf ch w.note)

/-- The waiting note of a channel is dropped late (R69). -/
def Station.dropLateNote (s : Station) (ch : Nat) : Station :=
  s.lateDrop.channelEvent ch ({ s.channel ch with waiting := none }, (s.channel ch).tellClaimant ch .droppedNote)

/-- WAITING_NOTE_EXPIRY (R69). -/
def execWaitingNoteExpiry (channel : Nat) (s : State) : Host.Outcome State Fault Refusal :=
  s.run fun t => t.onlyIf (t.running && t.noteTooLate channel) fun u => u.dropLateNote channel

/-! ## Pulse and return (R75 to R77) -/

/-- The pulse of a channel is over (R75). -/
def Station.pulseOver (s : Station) (ch : Nat) : Bool :=
  s.inService && decide ((s.channel ch).state = .striking) && s.past (s.channel ch).pulseEnd

/-- The pulse of a channel ends (R75); a hammer at rest whose interval has passed is READY at once (R76). -/
def Station.endHammerPulse (s : Station) (ch : Nat) : Station :=
  (s.setChannel ch ((s.channel ch).endPulse s.tb.run (s.showsRest ch))).settleReady ch

/-- HAMMER_PULSE_END (R75). -/
def execHammerPulseEnd (channel : Nat) (s : State) : Host.Outcome State Fault Refusal :=
  s.run fun t => t.onlyIf (t.pulseOver channel) fun u => u.endHammerPulse channel

/-- A channel watches its return sensor (R76, R77). -/
def Channel.watched (c : Channel) : Bool := decide (c.state = .ready) || decide (c.state = .settling)

/-- The sensor shows rest, and the change has not been taken (R76). -/
def Station.restShown (s : Station) (ch : Nat) : Bool :=
  s.inService && s.showsRest ch && !(s.channel ch).restTaken && (s.channel ch).watched

/-- Rest is taken (R76, R77). -/
def Station.takeRest (s : Station) (ch : Nat) : Station :=
  (s.setChannel ch { s.channel ch with restTaken := true, rested := true, lostAt := none }).settleReady ch

/-- RETURN_SENSOR_REST (R76, R77). -/
def execReturnSensorRest (channel : Nat) (s : State) : Host.Outcome State Fault Refusal :=
  s.run fun t => t.onlyIf (t.restShown channel) fun u => u.takeRest channel

/-- REPEAT_INTERVAL_PASSED (R76). -/
def execRepeatIntervalPassed (channel : Nat) (s : State) : Host.Outcome State Fault Refusal :=
  s.run fun t => t.onlyIf t.inService fun u => u.settleReady channel

/-- The return timeout of a channel has expired without rest (R75, R76). -/
def Station.returnLate (s : Station) (ch : Nat) : Bool :=
  s.inService && decide ((s.channel ch).state = .settling) && !(s.channel ch).rested &&
    (match (s.channel ch).pulseEnded with
     | none => false
     | some t => t.lasted s.tb.run 400)

/-- RETURN_TIMEOUT (R76, R78). -/
def execReturnTimeout (channel : Nat) (s : State) : Host.Outcome State Fault Refusal :=
  s.run fun t => t.onlyIf (t.returnLate channel) fun u => u.faultChannel channel

/-- The sensor has lost rest, and the change has not been taken (R77): watched in LISTENING and RUNNING (log 48). -/
def Station.restLost (s : Station) (ch : Nat) : Bool :=
  s.inService && !s.showsRest ch && (s.channel ch).restTaken &&
    (decide ((s.channel ch).state = .ready) || (decide ((s.channel ch).state = .settling) && (s.channel ch).rested))

/-- The loss of rest is taken (R77). -/
def Station.takeLoss (s : Station) (ch : Nat) : Station :=
  s.setChannel ch { s.channel ch with restTaken := false, lostAt := some s.tb.run }

/-- RETURN_SENSOR_LOSS (R77). -/
def execReturnSensorLoss (channel : Nat) (s : State) : Host.Outcome State Fault Refusal :=
  s.run fun t => t.onlyIf (t.restLost channel) fun u => u.takeLoss channel

/-- A loss of rest has lasted more than 100 ms (R77), looked at in LISTENING and RUNNING (log 48). -/
def Station.lossTooLong (s : Station) (ch : Nat) : Bool :=
  s.inService && (s.channel ch).watched &&
    (match (s.channel ch).lostAt with
     | none => false
     | some t => t.exceeds s.tb.run 100)

/-- REST_LOSS_LIMIT (R77, R78). -/
def execRestLossLimit (channel : Nat) (s : State) : Host.Outcome State Fault Refusal :=
  s.run fun t => t.onlyIf (t.lossTooLong channel) fun u => u.faultChannel channel

/-! ## Requests (R79, R80) -/

/-- STRIKE (R80). -/
def execStrike (a : Ask) (args : List Byte) (s : State) : Host.Outcome State Fault Refusal :=
  s.run fun t => t.request a 12 4 args fun u c => u.strike c (byteAt args 0) (byteAt args 1) (word16 args 2)

/-- RECHECK (R79). -/
def execRecheck (a : Ask) (args : List Byte) (s : State) : Host.Outcome State Fault Refusal :=
  s.run fun t => t.request a 18 1 args fun u _ => u.recheck (byteAt args 0)

end Sys2Proof.Machine
end

