-- ==== Sys2Proof/Machine/LightCommands.lean ====
section
/-! DEFINITION. The commands of the light and supply unit (08_floodlights_and_the_supply_budget.md). -/

namespace Sys2Proof.Machine

/-- DRAW_RECEIVED (R61, R164, R169). -/
def execDrawReceived (src : Nat) (payload : List Byte) (s : State) : Host.Outcome State Fault Refusal :=
  s.run fun t => t.dispatch src (decide (payload.length = 3)) fun u => u.heardDraw src payload

/-- FREE_RECEIVED (R61, R164). -/
def execFreeReceived (src : Nat) (payload : List Byte) (s : State) : Host.Outcome State Fault Refusal :=
  s.run fun t => t.dispatch src (decide (payload.length = 1)) fun u => u.heardFree src payload

/-- A heard entry has reached its expiry (R164). -/
def Station.entryExpired (s : Station) (station id : Nat) : Bool :=
  match s.sup.heardEntry station id with
  | none => false
  | some e => s.past (e.announced.map fun t => t.plus (secCycles e.hold))

/-- DRAW_ENTRY_EXPIRY (R164). -/
def execDrawEntryExpiry (station id : Nat) (s : State) : Host.Outcome State Fault Refusal :=
  s.run fun t => t.onlyIf (t.inService && t.entryExpired station id) fun u => u.removeHeard station id

/-- The quiet period ends (R167). -/
def Station.endQuiet (s : Station) : Station := ({ s with sup := { s.sup with quietEnd := none } } : Station).placementCheck

/-- QUIET_PERIOD_END (R167). -/
def execQuietPeriodEnd (s : State) : Host.Outcome State Fault Refusal :=
  s.run fun t => t.onlyIf (t.inService && t.past t.sup.quietEnd) Station.endQuiet

/-- A pending item has waited more than 120 s, and this has not been told (R172). -/
def Station.waitsLong (s : Station) (id : Nat) : Bool :=
  match s.sup.item id with
  | none => false
  | some i => !i.told && i.requested.exceeds s.tb.run 120000

/-- BUDGET_WAIT_LONG is set for a pending item (R172). -/
def Station.tellWait (s : Station) (id : Nat) : Station :=
  ({ s with sup := { s.sup with
      waiting := s.sup.waiting.map fun i => if i.id = id then { i with told := true } else i } } : Station).raise .budgetWaitLong

/-- PENDING_WAIT_LONG (R172). -/
def execPendingWaitLong (id : Nat) (s : State) : Host.Outcome State Fault Refusal :=
  s.run fun t => t.onlyIf (t.inService && t.waitsLong id) fun u => u.tellWait id

/-- CIRCUIT_START_END (R160). -/
def execCircuitStartEnd (circuit : Nat) (s : State) : Host.Outcome State Fault Refusal :=
  s.run fun t => t.onlyIf
    (t.inService && decide ((t.circuit circuit).state = .starting) && t.past (t.circuit circuit).startEnd)
    fun u => u.endStart circuit

/-- A feedback check of a circuit is due (R162). -/
def Station.checkIsDue (s : Station) (c : Nat) : Bool :=
  s.inService && (s.circuitCfg c).feedback && decide ((s.circuit c).state ≠ .unused)
    && s.past (s.circuit c).checkDue

/-- FEEDBACK_CHECK (R162). -/
def execFeedbackCheck (circuit : Nat) (s : State) : Host.Outcome State Fault Refusal :=
  s.run fun t => t.onlyIf (t.checkIsDue circuit) fun u => u.checkFeedback circuit

/-- The live draw of a circuit is due for renewal (R170). -/
def Station.circuitRenewalDue (s : Station) (c : Nat) : Bool :=
  s.inService && decide ((s.circuit c).draw = .live) && s.past (s.circuit c).renewalDue

/-- A circuit's live draw is renewed, and the next renewal falls due 60 s on (R170). -/
def Station.renewCircuit (s : Station) (c : Nat) : Station :=
  (s.setCircuit c { s.circuit c with renewalDue := (s.circuit c).renewalDue.map fun t => t.plus (secCycles 60) }).renewDraw c 150

/-- CIRCUIT_RENEWAL_DUE (R170). -/
def execCircuitRenewalDue (circuit : Nat) (s : State) : Host.Outcome State Fault Refusal :=
  s.run fun t => t.onlyIf (t.circuitRenewalDue circuit) fun u => u.renewCircuit circuit

/-- LIGHT_SCENE (R157). -/
def execLightScene (a : Ask) (args : List Byte) (s : State) : Host.Outcome State Fault Refusal :=
  s.run fun t => t.request a 16 1 args fun u _ => u.lightScene (byteAt args 0)

end Sys2Proof.Machine
end

