-- ==== Sys2Proof/Machine/PanelCommands.lean ====
section
/-! DEFINITION. The reads, CLEAR_SUMMARY and unknown requests (10_panel_requests_and_reporting.md). -/

namespace Sys2Proof.Machine

/-- STATUS (R187, R195). -/
def execStatus (a : Ask) (args : List Byte) (s : State) : Host.Outcome State Fault Refusal :=
  s.run fun t => t.request a 1 1 args fun u _ => u.readReply (u.statusPage (byteAt args 0))

/-- READ_TIME (R16, R195): the time and offset as they stand when the request is taken. -/
def execReadTime (a : Ask) (args : List Byte) (s : State) : Host.Outcome State Fault Refusal :=
  s.run fun t => t.request a 2 0 args fun u _ => u.readReply (some u.timeData)

/-- READ_ITEM (R188). -/
def execReadItem (a : Ask) (args : List Byte) (s : State) : Host.Outcome State Fault Refusal :=
  s.run fun t => t.request a 4 (readNeeds args) args fun u _ => u.readReply (u.readPart args)

/-- CLEAR_SUMMARY (R189). -/
def execClearSummary (a : Ask) (args : List Byte) (s : State) : Host.Outcome State Fault Refusal :=
  s.run fun t => t.request a 19 0 args fun u _ => u.clearSummary

/-- UNKNOWN_REQUEST (R185): answered UNKNOWN, with its code. -/
def execUnknownRequest (a : Ask) (code : Nat) (args : List Byte) (s : State) : Host.Outcome State Fault Refusal :=
  s.run fun t => t.request a code 0 args fun u _ => u.reply .unknown

end Sys2Proof.Machine
end

