-- ==== Sys2Proof/Machine/PerformanceCommands.lean ====
section
/-! DEFINITION. The commands of the performance unit (05_performances.md). -/

namespace Sys2Proof.Machine

/-! ## Heard frames (R93, R94, R108 to R110) -/

/-- CUE_RECEIVED (R61, R93 to R95). -/
def execCueReceived (src : Nat) (payload : List Byte) (s : State) : Host.Outcome State Fault Refusal :=
  s.run fun t => t.dispatch src (decide (payload.length = 12)) fun u => u.takeCue payload

/-- The scope a HALT payload holds (11.2). -/
def haltScope (p : List Byte) : Nat := byteAt p 0 % 4

/-- HALT_KEY_RECEIVED (R108, R193): a quarter that the key's class does not allow discards the HALT; a number or a minute out of
range does not (log 22). -/
def execHaltKeyReceived (src : Nat) (payload : List Byte) (s : State) : Host.Outcome State Fault Refusal :=
  s.run fun t => t.dispatch src (decide (payload.length = 6) && decide (haltScope payload = 0) && (keyAt payload 0).quarterValid)
    fun u => u.haltKey (keyAt payload 0)

/-- HALT_SILENCE_RECEIVED (R109). -/
def execHaltSilenceReceived (src : Nat) (payload : List Byte) (s : State) : Host.Outcome State Fault Refusal :=
  s.run fun t => t.dispatch src (decide (payload.length = 6) && decide (haltScope payload = 1)) Station.silence

/-- HALT_RESUME_RECEIVED (R110). -/
def execHaltResumeReceived (src : Nat) (payload : List Byte) (s : State) : Host.Outcome State Fault Refusal :=
  s.run fun t => t.dispatch src (decide (payload.length = 6) && decide (haltScope payload = 2)) Station.resume

/-! ## Playing, feeding, ending (R97 to R106) -/

/-- A CUED record whose start is 1,500 ms or less away (R97). -/
def Station.playDue (s : Station) (r : Record) : Bool := s.running && decide (r.state = .cued) && s.startNear r.start

/-- A record enters PLAYING, and feeds at once (R97, R98). -/
def Station.play (s : Station) (slot : Nat) : Station :=
  match s.record slot with
  | none => s
  | some r => if s.playDue r then (s.setRecord slot (some { r with state := playState r.hasPart })).feedNow [slot] else s

/-- PERFORMANCE_PLAY (R97). -/
def execPerformancePlay (slot : Nat) (s : State) : Host.Outcome State Fault Refusal := s.run fun t => t.play slot

/-- One note or stroke is considered; a stroke's slot goes on at once when its outcome is known (R98, R102, R106). -/
def Station.noteFeed (s : Station) (slot : Nat) : Station :=
  match s.feedOne slot with
  | none => s
  | some (t, notices) =>
      let u := t.report notices
      if u.strokeSlot slot then u.feedNow [slot] else u

/-- NOTE_FEED (R98). -/
def execNoteFeed (slot : Nat) (s : State) : Host.Outcome State Fault Refusal :=
  s.run fun t => t.onlyIf t.running fun u => u.noteFeed slot

/-- Tower time has reached a record's end (R85). -/
def Station.endReached (s : Station) (r : Record) : Bool :=
  match r.ends with
  | none => false
  | some e => s.tb.now.atOrAfter e

/-- An ENDING record ends (R96, R101, R102, R106). -/
def Station.endsNow (s : Station) (r : Record) : Bool :=
  s.running && decide (r.state = .ending) && decide (r.entriesOut = 0) &&
    (match r.key.cls with
     | .hour => true
     | .toll => r.hasPart || s.endReached r
     | .quarter | .tune => s.endReached r)

/-- A record's end (R101); a WAITING hour that it lets go strikes at once (R104). -/
def Station.performanceEnd (s : Station) (slot : Nat) : Station :=
  match s.record slot with
  | none => s
  | some r => if s.endsNow r then (s.leaveTable slot r .ended).feedNow [0] else s

/-- PERFORMANCE_END (R101). -/
def execPerformanceEnd (slot : Nat) (s : State) : Host.Outcome State Fault Refusal := s.run fun t => t.performanceEnd slot

/-- A WAITING hour's wait is over by its deadlines (R104 b and c). -/
def Station.waitOver (s : Station) (r : Record) : Bool :=
  s.running && decide (r.state = .waiting) &&
    (s.past r.deadline2 || (s.past r.deadline1 && !s.pf.chimeStands r.key.day r.key.minute && !s.pf.chimeRecent r.key.day r.key.minute))

/-- The hour's wait ends, and its first launch moment is now (R104). -/
def Station.hourDeadline (s : Station) : Station :=
  match s.record 0 with
  | none => s
  | some r => if s.waitOver r then (s.beginHour r s.hourLead).feedNow [0] else s

/-- HOUR_WAIT_DEADLINE (R104). -/
def execHourWaitDeadline (s : State) : Host.Outcome State Fault Refusal := s.run Station.hourDeadline

/-- The oldest recent key has stood 600 s (R87). -/
def Station.keyExpired (s : Station) : Bool :=
  match s.pf.recent with
  | [] => false
  | k :: _ => (k.run.plus (secCycles 600)).reached s.tb.run

/-- The oldest recent key leaves the list (R87). -/
def Station.dropKey (s : Station) : Station := { s with pf := { s.pf with recent := s.pf.recent.drop 1 } }

/-- RECENT_KEY_EXPIRY (R87). -/
def execRecentKeyExpiry (s : State) : Host.Outcome State Fault Refusal :=
  s.run fun t => t.onlyIf (t.running && t.keyExpired) Station.dropKey

/-! ## Requests (R92, R111) -/

/-- START (R92). -/
def execStart (a : Ask) (args : List Byte) (s : State) : Host.Outcome State Fault Refusal :=
  s.run fun t => t.request a 11 (startNeeds args) args fun u c => u.startRequest c args

/-- HALT_KEY (R111): applied here at once, then sent. -/
def execHaltKey (a : Ask) (args : List Byte) (s : State) : Host.Outcome State Fault Refusal :=
  s.run fun t => t.request a 13 6 args fun u _ =>
    if (keyAt args 0).valid then (u.haltKey (keyAt args 0)).sendHalt (.key (keyAt args 0)) else u.reply .range

/-- SILENCE (R111). -/
def execSilence (a : Ask) (args : List Byte) (s : State) : Host.Outcome State Fault Refusal :=
  s.run fun t => t.request a 14 0 args fun u _ => u.silence.sendHalt .silence

/-- RESUME (R111). -/
def execResume (a : Ask) (args : List Byte) (s : State) : Host.Outcome State Fault Refusal :=
  s.run fun t => t.request a 15 0 args fun u _ => u.resume.sendHalt .resume

end Sys2Proof.Machine
end

