-- ==== Sys2Proof/Machine/ProgrammeCommands.lean ====
section
/-! DEFINITION. The commands of the programme store (06_tune_library_and_calendar.md, R194). -/

namespace Sys2Proof.Machine

/-- WRITE_ITEM_CALENDAR (R125, R194). -/
def execWriteItemCalendar (a : Ask) (args : List Byte) (s : State) : Host.Outcome State Fault Refusal :=
  s.run fun t => t.loadRequest a 5 9 args fun u =>
    if itemTable args = 0 then u.writeCalendar a.asker (byteAt args 1) (itemPart args) args else u.reply .range

/-- WRITE_ITEM_DUSK (R125, R194). -/
def execWriteItemDusk (a : Ask) (args : List Byte) (s : State) : Host.Outcome State Fault Refusal :=
  s.run fun t => t.loadRequest a 5 4 args fun u =>
    if itemTable args = 1 then u.writeDusk (byteAt args 1) (itemPart args) args else u.reply .range

/-- WRITE_ITEM_SCENE (R125, R194). -/
def execWriteItemScene (a : Ask) (args : List Byte) (s : State) : Host.Outcome State Fault Refusal :=
  s.run fun t => t.loadRequest a 5 6 args fun u =>
    if itemTable args = 2 then u.writeScene (byteAt args 1) (itemPart args) args else u.reply .range

/-- OPEN_TUNE (R118). -/
def execOpenTune (a : Ask) (args : List Byte) (s : State) : Host.Outcome State Fault Refusal :=
  s.run fun t => t.loadRequest a 6 5 args fun u => u.openTune (byteAt args 0) (word16 args 1) (word16 args 3)

/-- ADD_NOTES (R119). -/
def execAddNotes (a : Ask) (args : List Byte) (s : State) : Host.Outcome State Fault Refusal :=
  s.run fun t => t.loadRequest a 7 5 args fun u => u.addNotes (byteAt args 0) (notesIn args)

/-- CLOSE_TUNE (R120). -/
def execCloseTune (a : Ask) (args : List Byte) (s : State) : Host.Outcome State Fault Refusal :=
  s.run fun t => t.loadRequest a 8 1 args fun u => u.closeTune (byteAt args 0)

/-- DELETE_TUNE (R117, R121). -/
def execDeleteTune (a : Ask) (args : List Byte) (s : State) : Host.Outcome State Fault Refusal :=
  s.run fun t => t.loadRequest a 9 1 args fun u => u.deleteTune (byteAt args 0)

/-- STORE (R135): what it needs of arguments is nothing. -/
def execStore (a : Ask) (_args : List Byte) (s : State) : Host.Outcome State Fault Refusal :=
  s.run fun t => t.takeAsk a fun u _ => u.beginStore a

/-- STORE_COMPLETE (R135): the memory takes the blocks written, and the STORE ends. -/
def execStoreComplete (failed : Option Nat) (held : List Byte) (s : State) : Host.Outcome State Fault Refusal :=
  match s.st.pg.storing with
  | none => .next s
  | some f => { s with mem := s.st.pg.stored s.mem failed held }.run fun t => t.endStore f failed.isSome

end Sys2Proof.Machine
end

