-- ==== Sys2Proof/Machine/StartCommands.lean ====
section
/-! DEFINITION. The commands of the start-up sequencer (09_start_up_and_retention.md). -/

namespace Sys2Proof.Machine

/-- Supply-good falls (R176). -/
def Station.supplyFall (s : Station) : Station :=
  ({ s with seq := { s.seq with supplyGood := false, supplyFell := true } } : Station).toSupplyWait

/-- SUPPLY_GOOD_FALL (R176). -/
def execSupplyGoodFall (s : State) : Host.Outcome State Fault Refusal := s.run Station.supplyFall

/-- The reset line is asserted (R176). -/
def Station.assertReset (s : Station) : Station :=
  ({ s with seq := { s.seq with resetAsserted := true } } : Station).toSupplyWait

/-- RESET_ASSERT (R176). -/
def execResetAssert (s : State) : Host.Outcome State Fault Refusal := s.run Station.assertReset

/-- START_MOMENT (R176): the first moment in SUPPLY_WAIT with supply-good high and the reset line released. -/
def execStartMoment (s : State) : Host.Outcome State Fault Refusal :=
  s.run fun t => t.onlyIf (decide (t.seq.state = .supplyWait)) fun u => u.startAt u.seq.startKind

/-- The backup supply stands below its hold level (R177). -/
def Station.backupLow (s : Station) : Station :=
  { s with seq := { s.seq with backupValid := false }, lines := { s.lines with backup := false } }

/-- BACKUP_SUPPLY_LOW (R177). -/
def execBackupSupplyLow (s : State) : Host.Outcome State Fault Refusal := s.run Station.backupLow

/-- CHECKING has lasted 200 ms from the start moment (R178). -/
def Station.checkingOver (s : Station) : Bool := decide (s.seq.state = .checking) && (RunTime.mk 0 0).lasted s.tb.run 200

/-- CHECKING_END (R178). -/
def execCheckingEnd (s : State) : Host.Outcome State Fault Refusal :=
  s.run fun t => t.onlyIf t.checkingOver fun u => u.endChecking ((readStationBlock s.mem).getD u.cfg)

/-- LOADING_END (R179, R180): the board's rewrites stand in the memory that is read (log 7). -/
def execLoadingEnd (answers : Bool) (rewritten : List Host.Cell) (s : State) : Host.Outcome State Fault Refusal :=
  if s.st.seq.state = .loading then
    match Memory.firstAbsent rewritten with
    | some a => .fault (.noSuchMemoryByte a)
    | none =>
        let m := Memory.rewrite s.mem rewritten
        { s with mem := m }.run fun t => t.endLoading m answers
  else .next s

/-- LISTENING ends by its timeout: with no source, a station left in holdover says so (R30, R42, R181). -/
def Station.listeningOver (s : Station) : Station :=
  (if s.ag.followed.isSome then s.switchTo none else s.noteHoldover).enterRunning

/-- LISTENING_TIMEOUT (R181). -/
def execListeningTimeout (s : State) : Host.Outcome State Fault Refusal :=
  s.run fun t => t.onlyIf (t.listening && t.past t.seq.timeout) Station.listeningOver

/-- RESTART_LINE (R183). -/
def execRestartLine (s : State) : Host.Outcome State Fault Refusal := s.run Station.restartIfTaken

/-- RESTART (R183). -/
def execRestart (a : Ask) (_args : List Byte) (s : State) : Host.Outcome State Fault Refusal :=
  s.run fun t => t.takeAsk a fun u _ => u.askRestart a

end Sys2Proof.Machine
end

