-- ==== Sys2Proof/Machine/TimeCommands.lean ====
section
/-! DEFINITION. The commands of the time base: the crystal cycle and the boundary events (01_tower_time.md). -/

namespace Sys2Proof.Machine

/-- CRYSTAL_CYCLE (R1, R4, R18). -/
def execCrystalCycle (inputs : Inputs) (s : State) : Host.Outcome State Fault Refusal := s.run fun t => t.crystalCycle inputs

/-- LOCAL_SECOND_BOUNDARY (R5 to R8), with the once-per-second work of the blocks. -/
def execLocalSecondBoundary (s : State) : Host.Outcome State Fault Refusal := s.run Station.localSecond

/-- BACKUP_SECOND_BOUNDARY (R18). -/
def execBackupSecondBoundary (s : State) : Host.Outcome State Fault Refusal := s.run Station.backupSecond

/-- TOWER_SECOND (R14, R21). -/
def execTowerSecond (s : State) : Host.Outcome State Fault Refusal := s.run Station.towerSecond

/-- DIAL_BOUNDARY (R14, R141). -/
def execDialBoundary (s : State) : Host.Outcome State Fault Refusal := s.run Station.dialBoundary

/-- CIVIL_MINUTE (R14, R126). -/
def execCivilMinute (s : State) : Host.Outcome State Fault Refusal := s.run Station.civilMinute

/-- CIVIL_QUARTER (R14, R103). -/
def execCivilQuarter (s : State) : Host.Outcome State Fault Refusal := s.run Station.civilQuarter

/-- CIVIL_HOUR (R14, R103). -/
def execCivilHour (s : State) : Host.Outcome State Fault Refusal := s.run Station.civilHour

end Sys2Proof.Machine
end

