-- ==== Sys2Proof/Machine/Dispatch.lean ====
section
/-! DEFINITION. The meaning of every command: one arm for each row of spec/opcode_table.json. -/

namespace Sys2Proof.Machine

/-- The effect of a command on everything but the queue. -/
def exec (i : Instr) (s : State) : Host.Outcome State Fault Refusal :=
  match i with
  | .localSecondBoundary => Sys2Proof.Machine.execLocalSecondBoundary s
  | .backupSecondBoundary => Sys2Proof.Machine.execBackupSecondBoundary s
  | .towerSecond => Sys2Proof.Machine.execTowerSecond s
  | .dialBoundary => Sys2Proof.Machine.execDialBoundary s
  | .civilMinute => Sys2Proof.Machine.execCivilMinute s
  | .civilQuarter => Sys2Proof.Machine.execCivilQuarter s
  | .civilHour => Sys2Proof.Machine.execCivilHour s
  | .markMoment => Sys2Proof.Machine.execMarkMoment s
  | .startBit own recessive => Sys2Proof.Machine.execStartBit own recessive s
  | .arbitrationLost => Sys2Proof.Machine.execArbitrationLost s
  | .attemptError e => Sys2Proof.Machine.execAttemptError e s
  | .attemptCompleteHeard => Sys2Proof.Machine.execAttemptCompleteHeard s
  | .attemptCompleteUnheard => Sys2Proof.Machine.execAttemptCompleteUnheard s
  | .receiveError bits => Sys2Proof.Machine.execReceiveError bits s
  | .muteRecovery bits => Sys2Proof.Machine.execMuteRecovery bits s
  | .markReceived src payload => Sys2Proof.Machine.execMarkReceived src payload s
  | .peerExpiry peer => Sys2Proof.Machine.execPeerExpiry peer s
  | .referenceMessage bytes framed => Sys2Proof.Machine.execReferenceMessage bytes framed s
  | .referenceMessageExpiry => Sys2Proof.Machine.execReferenceMessageExpiry s
  | .referencePulse => Sys2Proof.Machine.execReferencePulse s
  | .referenceLost => Sys2Proof.Machine.execReferenceLost s
  | .cueReceived src payload => Sys2Proof.Machine.execCueReceived src payload s
  | .haltKeyReceived src payload => Sys2Proof.Machine.execHaltKeyReceived src payload s
  | .haltSilenceReceived src payload => Sys2Proof.Machine.execHaltSilenceReceived src payload s
  | .haltResumeReceived src payload => Sys2Proof.Machine.execHaltResumeReceived src payload s
  | .drawReceived src payload => Sys2Proof.Machine.execDrawReceived src payload s
  | .freeReceived src payload => Sys2Proof.Machine.execFreeReceived src payload s
  | .answerReceived src payload => Sys2Proof.Machine.execAnswerReceived src payload s
  | .drawEntryExpiry station id => Sys2Proof.Machine.execDrawEntryExpiry station id s
  | .quietPeriodEnd => Sys2Proof.Machine.execQuietPeriodEnd s
  | .pendingWaitLong id => Sys2Proof.Machine.execPendingWaitLong id s
  | .performancePlay slot => Sys2Proof.Machine.execPerformancePlay slot s
  | .noteFeed slot => Sys2Proof.Machine.execNoteFeed slot s
  | .performanceEnd slot => Sys2Proof.Machine.execPerformanceEnd slot s
  | .hourWaitDeadline => Sys2Proof.Machine.execHourWaitDeadline s
  | .recentKeyExpiry => Sys2Proof.Machine.execRecentKeyExpiry s
  | .hammerLaunch channel => Sys2Proof.Machine.execHammerLaunch channel s
  | .lateLimitExpiry channel => Sys2Proof.Machine.execLateLimitExpiry channel s
  | .waitingNoteExpiry channel => Sys2Proof.Machine.execWaitingNoteExpiry channel s
  | .hammerPulseEnd channel => Sys2Proof.Machine.execHammerPulseEnd channel s
  | .returnSensorRest channel => Sys2Proof.Machine.execReturnSensorRest channel s
  | .repeatIntervalPassed channel => Sys2Proof.Machine.execRepeatIntervalPassed channel s
  | .returnTimeout channel => Sys2Proof.Machine.execReturnTimeout channel s
  | .returnSensorLoss channel => Sys2Proof.Machine.execReturnSensorLoss channel s
  | .restLossLimit channel => Sys2Proof.Machine.execRestLossLimit channel s
  | .dialPulseBegin dial => Sys2Proof.Machine.execDialPulseBegin dial s
  | .dialPulseEnd dial => Sys2Proof.Machine.execDialPulseEnd dial s
  | .dialRenewalDue dial => Sys2Proof.Machine.execDialRenewalDue dial s
  | .circuitStartEnd circuit => Sys2Proof.Machine.execCircuitStartEnd circuit s
  | .feedbackCheck circuit => Sys2Proof.Machine.execFeedbackCheck circuit s
  | .circuitRenewalDue circuit => Sys2Proof.Machine.execCircuitRenewalDue circuit s
  | .storeComplete failed held => Sys2Proof.Machine.execStoreComplete failed held s
  | .supplyGoodFall => Sys2Proof.Machine.execSupplyGoodFall s
  | .resetAssert => Sys2Proof.Machine.execResetAssert s
  | .startMoment => Sys2Proof.Machine.execStartMoment s
  | .backupSupplyLow => Sys2Proof.Machine.execBackupSupplyLow s
  | .checkingEnd => Sys2Proof.Machine.execCheckingEnd s
  | .loadingEnd answers rewritten => Sys2Proof.Machine.execLoadingEnd answers rewritten s
  | .listeningTimeout => Sys2Proof.Machine.execListeningTimeout s
  | .restartLine => Sys2Proof.Machine.execRestartLine s
  | .status a args => Sys2Proof.Machine.execStatus a args s
  | .readTime a args => Sys2Proof.Machine.execReadTime a args s
  | .setTime a args => Sys2Proof.Machine.execSetTime a args s
  | .readItem a args => Sys2Proof.Machine.execReadItem a args s
  | .writeItemCalendar a args => Sys2Proof.Machine.execWriteItemCalendar a args s
  | .writeItemDusk a args => Sys2Proof.Machine.execWriteItemDusk a args s
  | .writeItemScene a args => Sys2Proof.Machine.execWriteItemScene a args s
  | .openTune a args => Sys2Proof.Machine.execOpenTune a args s
  | .addNotes a args => Sys2Proof.Machine.execAddNotes a args s
  | .closeTune a args => Sys2Proof.Machine.execCloseTune a args s
  | .deleteTune a args => Sys2Proof.Machine.execDeleteTune a args s
  | .store a args => Sys2Proof.Machine.execStore a args s
  | .start a args => Sys2Proof.Machine.execStart a args s
  | .strike a args => Sys2Proof.Machine.execStrike a args s
  | .haltKey a args => Sys2Proof.Machine.execHaltKey a args s
  | .silence a args => Sys2Proof.Machine.execSilence a args s
  | .resume a args => Sys2Proof.Machine.execResume a args s
  | .lightScene a args => Sys2Proof.Machine.execLightScene a args s
  | .dialSet a args => Sys2Proof.Machine.execDialSet a args s
  | .recheck a args => Sys2Proof.Machine.execRecheck a args s
  | .clearSummary a args => Sys2Proof.Machine.execClearSummary a args s
  | .restart a args => Sys2Proof.Machine.execRestart a args s
  | .unknownRequest a code args => Sys2Proof.Machine.execUnknownRequest a code args s
  | .crystalCycle inputs => Sys2Proof.Machine.execCrystalCycle inputs s
  | .breakReceived => Sys2Proof.Machine.execBreakReceived s
  | .frameDiscarded src => Sys2Proof.Machine.execFrameDiscarded src s

end Sys2Proof.Machine
end

