-- ==== Sys2Proof/Machine/Step.lean ====
section
/-! DEFINITION. One step of the machine: the command at the front of the queue, and the host's way to put one there. -/

namespace Sys2Proof.Machine

/-- The state with a given queue. -/
def State.withPending (s : State) (q : List Instr) : State := { s with pending := q }

/-- One step: the front command runs on the state with the queue's rest; with no command waiting the block idles (log 3). -/
def step (s : State) : Host.Outcome State Fault Refusal :=
  match s.pending with
  | [] => .next s
  | c :: rest => exec c (s.withPending rest)

/-- A command put at the front of the queue. -/
def State.pushFront (s : State) (c : Instr) : State := s.withPending (c :: s.pending)

/-- The command that a table word spells put at the front of the queue; no word spells one (log 37). -/
def State.withFetchWord (s : State) (nbits w : Nat) : State :=
  match decodeTableWord nbits w with
  | none => s
  | some c => s.pushFront c

end Sys2Proof.Machine
end

