-- ==== Sys2Proof/Safety.lean ====
section
/-! DEFINITION. What counts as a safe run, and the words in which claims are stated. -/

namespace Sys2Proof.Machine

/-! ## Safe states -/

/-- No restart is outstanding: the ANSWER of every RESTART that has been reported has had its restart (R183). -/
abbrev State.settled (s : State) : Prop := s.st.panel.restartDue = false

/-- The configuration memory has its canonical form (11.4). -/
abbrev State.memoryKept (s : State) : Prop := Memory.wf s.mem = true

/-- The seventh law of the device (R74): no more hammer pulses than hammer slots, and outside LISTENING and RUNNING none at
all (R175). -/
abbrev State.slotsKept (s : State) : Prop :=
  s.st.slotsInUse ≤ s.st.cfg.hammerSlots ∧ (s.st.inService = false → s.st.slotsInUse = 0)

/-- The tables have their sizes (R24, R64, R85, R115, R123, R134, R139, R155, R157, R190), the note store its 2,048 records, a dial's
hands a step of 0..1,439 (R140), and the station block the ranges on which rules rely (R64, R179). -/
def State.tablesKept (s : State) : Prop :=
  s.st.ag.peers.length = 15 ∧ s.st.channels.length = 8 ∧ s.st.pf.table.length = 6 ∧ s.st.pg.tunes.length = 64 ∧
    s.st.pg.notes.length ≤ 2048 ∧ s.st.pg.calendar.length = 96 ∧ s.st.pg.dusk.length = 46 ∧ s.st.pg.scenes.length = 16 ∧
    s.st.dials.length = 4 ∧ s.st.sup.circuits.length = 6 ∧ s.st.panel.counters.length = 13 ∧
    (∀ d ∈ s.st.dials, ∀ p, d.position = some p → p < 1440) ∧ s.st.cfg.number ≤ 14 ∧ ∀ k ∈ s.st.cfg.channels, k.lead ≤ 400

/-- The fourth law of the device (R86): no two records of one key, no record's key in the recent-key list, and the HOUR record,
and no other, in slot 0. -/
def State.keysKept (s : State) : Prop :=
  (∀ i j x y, s.st.record i = some x → s.st.record j = some y → x.key = y.key → i = j) ∧
    (∀ i x, s.st.record i = some x → s.st.pf.isRecent x.key = false) ∧
    (∀ i x, s.st.record i = some x → (x.key.cls = .hour ↔ i = 0))

/-- An owner of entries is the holder of the bell (R66, R67). -/
def Holder.owns : Holder → Owner → Bool
  | .perf slot _, .slot n => decide (n = slot)
  | .panel, .panel => true
  | _, _ => false

/-- No entry of a queue stands before one of an earlier target (R66). -/
def inOrder : List StrikeEntry → Bool
  | x :: y :: rest => decide (x.target.diff y.target ≤ 0) && inOrder (y :: rest)
  | _ => true

/-- The fifth law of the device (R66): the entries of a bell's queue belong to its holder, and stand in the order of their
targets; a waiting note belongs to its claimant. -/
def Channel.queueKept (c : Channel) : Prop :=
  (∀ e ∈ c.queue, c.holder.owns e.owner = true) ∧ inOrder c.queue = true ∧ ∀ w, c.waiting = some w → w.note.owner = .slot w.slot

/-- The fifth law of the device on every bell (R66). -/
def State.queuesKept (s : State) : Prop := ∀ c ∈ s.st.channels, c.queueKept

/-! ## Own draws (R160, R163, R166 to R171) -/

/-- The draw of the consumer of an id: from 8 on a dial, below a circuit (R139, R155). -/
def Station.drawOf (s : Station) (id : Nat) : DrawState := if 8 ≤ id then (s.dial (id - 8)).draw else (s.circuit id).draw

/-- The sum of the own entries of the draw list (R167). -/
def Supply.ownSum (u : Supply) : Nat := viewOf (u.draws.filter (·.own))

/-- What the queued items add when they are placed (R167). -/
def Supply.queuedSum (u : Supply) : Nat := ((u.waiting.filter (·.queued)).map u.need).sum

/-- The eighth law of the device (R167): the own entries stay within the tower budget. -/
abbrev State.withinBudget (s : State) : Prop := s.st.sup.ownSum ≤ s.st.cfg.budget

/-- The ninth law of the device (R163): a circuit in STARTING or ON and a dial in CATCHING_UP or SEEKING have an own entry. -/
def State.drawsListed (s : State) : Prop :=
  (∀ c, (s.st.circuit c).state = .starting ∨ (s.st.circuit c).state = .on → (s.st.sup.ownEntry c).isSome = true) ∧
    ∀ d, (s.st.dial d).state = .catchingUp ∨ (s.st.dial d).state = .seeking → (s.st.sup.ownEntry (dialDrawId d)).isSome = true

/-- The own entries are those of the live draws, one for each, and their sum with what the queued items add stays within the
budget. -/
def Station.entriesKept (s : Station) : Prop :=
  s.sup.ownSum + s.sup.queuedSum ≤ s.cfg.budget ∧ ((s.sup.draws.filter (·.own)).map (·.id)).Nodup ∧
    (∀ e ∈ s.sup.draws, e.own = true → s.drawOf e.id = .live) ∧ ∀ id, s.drawOf id = .live → (s.sup.ownEntry id).isSome = true

/-- A consumer's state and its draw go together; a STARTING circuit draws its inrush (R140, R156, R160). -/
def Station.consumersKept (s : Station) : Prop :=
  (∀ x ∈ s.sup.circuits, (x.state = .starting ∨ x.state = .on → x.draw = .live) ∧ (x.state = .off ∨ x.state = .faulted → x.draw = .none)) ∧
    (∀ x ∈ s.dials, (x.state = .catchingUp ∨ x.state = .seeking → x.draw = .live) ∧ (x.state = .faulted → x.draw = .none)) ∧
    ∀ c, (s.circuit c).state = .starting → ∀ e ∈ s.sup.ownEntry c, e.amount = (s.circuitCfg c).inrush

/-- The pending list holds one item of an id: an increase that a circuit of a higher steady amount asked for, or a new draw of a
consumer without a live one (R160, R166). -/
def Station.itemsKept (s : Station) : Prop :=
  (s.sup.waiting.map (·.id)).Nodup ∧ ∀ i ∈ s.sup.waiting,
    if i.increase then i.id < 8 ∧ (s.circuitCfg i.id).inrush < (s.circuitCfg i.id).steady
    else s.drawOf i.id ≠ .live ∧ (i.id < 8 → i.amount = (s.circuitCfg i.id).inrush)

/-- The frame is the DRAW of a pending item. -/
def PendingDraw.askedBy (i : PendingDraw) : Frame → Bool
  | .draw id amount _ .new => decide (i.id = id) && decide (i.amount = amount) && !i.increase
  | .draw id amount _ (.increase _) => decide (i.id = id) && decide (i.amount = amount) && i.increase
  | _ => false

/-- The transmit queue holds at most one claim of an id, that of a queued item; no two of its slots share an age (R57, R168). -/
def Station.claimsKept (s : Station) : Prop :=
  (∀ q ∈ s.bus.queue, ∀ id, q.frame.isClaimOf id = true → ∃ i ∈ s.sup.waiting, i.queued = true ∧ i.askedBy q.frame = true) ∧
    (∀ id, s.bus.queue.countP (fun q => q.frame.isClaimOf id) ≤ 1) ∧
    (s.bus.queue.map (·.age)).Nodup ∧ ∀ q ∈ s.bus.queue, q.age < s.bus.nextAge

/-- Before LISTENING nothing draws or asks, and no civil minute stands raised outside RUNNING (R14, R173, R175). -/
def Station.idleKept (s : Station) : Prop :=
  (s.seq.state = .checking ∨ s.seq.state = .loading ∨ s.seq.state = .unconfigured →
    s.sup.waiting = [] ∧ (∀ e ∈ s.sup.draws, e.own = false) ∧ ∀ id, s.drawOf id = .none) ∧
  (s.tb.minuteDue.isSome = true → s.running = true)

/-- What keeps the eighth and the ninth law of the device. -/
def State.drawsKept (s : State) : Prop :=
  s.st.entriesKept ∧ s.st.consumersKept ∧ s.st.itemsKept ∧ s.st.claimsKept ∧ s.st.idleKept

/-- Run time and tower time stand in their ranges (R1, R2). -/
abbrev TimeBase.inRange (tb : TimeBase) : Prop :=
  tb.run.sec < Config.secondSpan ∧ tb.run.cyc < Config.cyclesPerSecond ∧ tb.day < Config.daySpan ∧ tb.us < Config.usPerDay
    ∧ tb.frac < Config.unitsPerUs

/-- A safe state. -/
def State.safe (s : State) : Prop := s.settled ∧ s.memoryKept ∧ s.slotsKept ∧ s.st.tb.inRange

/-- A step of a safe run ends in a safe state, or stops. -/
def State.stepsSafely (s : State) : Prop := ∀ t, step s = .next t → t.safe

/-! ## The words of claims -/

/-- The state with another station. -/
def State.withSt (s : State) (t : Station) : State := { s with st := t }

/-- The bus state agrees with the counts, where they count (R54). -/
abbrev Bus.agrees (b : Bus) : Prop := b.mayQueue = true → b.state = busStateOf b.send b.hear

/-- A frame of station `src`, not this one, is being received, its start bit captured (R47, R48, R62). -/
abbrev Station.Hears (s : Station) (src : Nat) (cap : Capture) : Prop :=
  s.bus.current = some ⟨cap, .receiving⟩ ∧ src ≠ s.cfg.number ∧ s.bus.agrees

/-- The bus controller after a frame received good: heard slot and hear count where the counts change, the line released
where they do not (R50, R53, R54, R56). -/
def Station.heard (s : Station) : Station :=
  if s.running && s.bus.mayQueue then
    { s with bus := { s.bus with
        current := none, wait := .afterFrame, drive := .heardSlot, hear := s.bus.hear - 1,
        state := busStateOf s.bus.send (s.bus.hear - 1) } }
  else { s with bus := { s.bus with current := none, wait := .afterFrame, drive := .released } }

/-- An ASK that the panel service takes is being received (R185), and nothing of a restart is outstanding. -/
abbrev State.Asked (s : State) (a : Ask) (cap : Capture) : Prop :=
  s.settled ∧ s.st.running = true ∧ s.st.Hears a.asker cap ∧ (a.target = s.st.cfg.number ∨ a.target = 15)

/-- A HALT or a FREE: offered for three hearings, its report changing no block (R59, R111, R171). -/
def Frame.isPlain : Frame → Bool
  | .halt _ | .free _ => true
  | _ => false

/-- A frame whose report no block acts on: a HALT, a FREE, an ANSWER that restarts nothing (R58, R59, R111, R171). -/
def Frame.isReportless : Frame → Bool
  | .halt _ | .free _ | .answer _ _ _ _ _ false => true
  | _ => false

/-- No dial and no circuit is used (R139, R155). -/
abbrev Station.unfitted (s : Station) : Prop := (∀ x ∈ s.dials, x.state = .unused) ∧ ∀ c ∈ s.sup.circuits, c.state = .unused

/-- The limit that placements are checked against: half the budget in the quiet period (R167). -/
def Station.placingLimit (s : Station) : Nat := if s.sup.quietEnd = none then s.cfg.budget else s.cfg.budget / 2

/-- The frame stands in the queue, if the station may send and has a slot free (R58). -/
def Station.queued (s : Station) (f : Frame) : Station :=
  if s.running && s.bus.mayQueue && decide (s.bus.queue.length < 8) then { s with bus := s.bus.append f } else s

/-- The station with its ANSWER queued, where the ASK named it and the queue takes the frame (R58, R185). -/
def Station.answered (s : Station) (a : Ask) (code : Nat) (o : ReqOutcome) (data : List Byte) : Station :=
  if a.target = s.cfg.number then s.queued (.answer a.asker a.seq code o data false) else s

/-- Tower time as one number of tick units (R2). -/
def TimeBase.ticks (tb : TimeBase) : Nat := (tb.day * Config.usPerDay + tb.us) * Config.unitsPerUs + tb.frac

/-- Tick units of the whole span of day numbers (R2). -/
def tickSpan : Nat := Config.daySpan * Config.usPerDay * Config.unitsPerUs

/-- No boundary event stands raised and untaken. -/
abbrev TimeBase.quiet (tb : TimeBase) : Prop :=
  tb.secondDue = false ∧ tb.backupDue = false ∧ tb.towerSecondDue = none ∧ tb.dialDue = none ∧ tb.minuteDue = none
    ∧ tb.quarterDue = none ∧ tb.hourDue = none

end Sys2Proof.Machine
end

