-- ==== Sys2Proof/Certificates/Slice0/Obligations.lean ====
section
/-! DEFINITION. The statements for the provers. Rules R1 to R195 are those of spec/; "log n" is notes/assumptions/n.md. A
statement that gives the whole next state as an update of the old one is also the command's frame: every field it does not
name is unchanged, the queue and the configuration memory with them. -/

open Sys2Proof Sys2Proof.Machine

/-! ## The machine as a whole -/

/-- A step runs the front command on the state with the queue's rest; an empty queue idles (the idling is the model's choice,
log 3). -/
def Obligations.StepRunsFrontCommand : Prop :=
  (∀ (s : State) (c : Instr) (rest : List Instr), s.pending = c :: rest → step s = exec c (s.withPending rest)) ∧
  (∀ s : State, s.pending = [] → step s = .next s)

/-- No command touches the queue of waiting commands, and none but STORE_COMPLETE and LOADING_END changes a byte of the
configuration memory. -/
def Obligations.CommandsKeepQueueAndMemory : Prop :=
  ∀ (c : Instr) (s t : State), exec c s = .next t →
    t.pending = s.pending ∧
      ((∀ f h, c ≠ .storeComplete f h) → (∀ a w, c ≠ .loadingEnd a w) → ∀ a, Memory.read t.mem a = Memory.read s.mem a)

/-- Every command answers a next state from every state, but for a LOADING_END whose operand rewrites a byte that the
configuration memory does not have: that one stops by its name (log 7). -/
def Obligations.CommandsRun : Prop :=
  ∀ (c : Instr) (s : State),
    (∃ t, exec c s = .next t) ∨
    (∃ answers rewritten a, c = .loadingEnd answers rewritten ∧ s.st.seq.state = .loading ∧
      Memory.firstAbsent rewritten = some a ∧ exec c s = .fault (.noSuchMemoryByte a))

/-- Every step from a state whose configuration memory is in canonical form ends in such a state. -/
def Obligations.StepKeepsMemoryForm : Prop :=
  ∀ s t : State, s.memoryKept → step s = .next t → t.memoryKept

/-- Every step keeps the law of hammer slots: no more pulses than slots, and outside LISTENING and RUNNING none. Every step
keeps the law of the strike queues: every entry belongs to the holder of the bell, a bell without a holder has none, and the
entries stand in the order of their targets; the state after reset has it. -/
def Obligations.StepKeepsHammerSlots : Prop :=
  (∀ s t : State, s.slotsKept → step s = .next t → t.slotsKept) ∧
  ((∀ s t : State, s.queuesKept → step s = .next t → t.queuesKept) ∧ State.reset.queuesKept)

/-- Every step keeps run time and tower time in the ranges of their fields. -/
def Obligations.StepKeepsTimeInRange : Prop :=
  ∀ s t : State, s.st.tb.inRange → step s = .next t → t.st.tb.inRange

/-- No step leaves a restart outstanding: it is made with the report of its ANSWER. Every step keeps the bus state in
agreement with the send and hear counts, where they count. -/
def Obligations.StepKeepsBusAndSettled : Prop :=
  (∀ s t : State, s.settled → step s = .next t → t.settled) ∧
  (∀ s t : State, s.st.bus.agrees → step s = .next t → t.st.bus.agrees)

/-- Every step keeps the sizes of the tables, the 2,048 records of the note store, the 1,440 steps of a dial, the station
number in 0..14 and each lead in its range; the state after reset has them. Every step keeps the law of keys: no two records
of one key in the performance table, no record's key in the recent-key list, and the HOUR record, and no other, in slot 0;
the state after reset has it. -/
def Obligations.StepKeepsTables : Prop :=
  ((∀ s t : State, s.tablesKept → step s = .next t → t.tablesKept) ∧ State.reset.tablesKept) ∧
  ((∀ s t : State, s.keysKept → step s = .next t → t.keysKept) ∧ State.reset.keysKept)

/-- The laws of own draws: the own entries of the draw list never exceed the tower budget, and every circuit in STARTING or
ON and every dial in CATCHING_UP or SEEKING has a live own entry of its id. They follow from an invariant that every step
keeps and the state after reset has: own entries are those of live draws, with what the queued items will add they stay
within the budget, a claim in the transmit queue is that of a queued item, and before LISTENING nothing draws. -/
def Obligations.StepKeepsOwnDraws : Prop :=
  (∀ s t : State, s.tablesKept → s.drawsKept → step s = .next t → t.drawsKept) ∧
  (∀ s : State, s.drawsKept → s.withinBudget ∧ s.drawsListed) ∧ State.reset.drawsKept

/-- The state after reset is safe and waits for supply, with an empty queue and the COLD values of the start tables; that
reset is a station to which supply was never applied is the model's choice (log 5). -/
def Obligations.ResetIsSafe : Prop :=
  State.reset.safe ∧ State.reset.pending = [] ∧ State.reset.st.seq.state = .supplyWait ∧ State.reset.st.tb.valid = false ∧
    State.reset.st.tb.ticks = 0 ∧ State.reset.st.tb.offset = 0 ∧ State.reset.st.stratum = 7 ∧
    State.reset.st.bus.state = .active ∧ State.reset.st.bus.queue = [] ∧ State.reset.st.sup.scene = 0 ∧
    State.reset.st.panel.summary = 0 ∧ State.reset.st.alarm = false

/-! ## Memory, frames and codes -/

/-- A byte reads back as written and every other byte as before, the form is kept, and two memories that read alike are
equal. What a byte that nothing has written reads as is the model's choice (log 7). -/
def Obligations.MemoryReadsWhatWasWritten : Prop :=
  (∀ (m : Memory) (a : Nat) (v : Byte), m.wf = true → a < Config.memBytes →
    (m.write a v).wf = true ∧ ∀ b, (m.write a v).read b = if b = a then v else m.read b) ∧
  (∀ m n : Memory, m.wf = true → n.wf = true → (∀ a, m.read a = n.read a) → m = n)

/-- From the bits that a sender drives after its start bit (groups, sync bits, check word, end field) a receiver reads the
word and the payload that were sent, for every word of 10 bits and every payload of up to 12 bytes. -/
def Obligations.ReceiverReadsWhatWasSent : Prop :=
  ∀ (word : Nat) (payload : List Byte), word < 1024 → payload.length ≤ 12 →
    Receiver.start.scan (frameBits word payload) = .done (.good word payload)

/-- The bytes written for a key, for the fields of a MARK and for a note read back as that key, those fields and that note; a
calendar entry that 14 bytes spell is spelt again by the bytes written for it. -/
def Obligations.FieldsReadBack : Prop :=
  (∀ (k : Key) (scope : Nat), k.number < 256 → k.quarter < 8 → k.day < 65536 → k.minute < 65536 → scope < 4 →
     keyAt (k.bytes scope) 0 = k ∧ (k.bytes scope).length = 6) ∧
  ((∀ m : MarkFields, m.day < 65536 → m.us < 1099511627776 → m.stratum < 8 → (∀ n ∈ m.followed, n < 15) →
     markFieldsOf m.bytes = m ∧ m.bytes.length = 9) ∧
   (∀ n : Note, n.offset < 65536 → n.bell < 256 → 1 ≤ n.velocity → n.velocity ≤ 4 → noteAt n.bytes 0 = n ∧ n.bytes.length = 4)) ∧
  (∀ (bs : List Byte) (e : CalendarEntry), entryOf bs = some e → entryOf e.bytes = some e ∧ e.bytes.length = 14)

/-! ## The time base -/

/-- CRYSTAL_CYCLE with no event outstanding: outside SUPPLY_WAIT run time gains one cycle and tower time 15,625 + q tick
units, and one more while the cycle count stands below r; in SUPPLY_WAIT run time stands and the backup domain spreads the
gain over its own cycle count. Nothing else changes but the input lines, the raised events and the backup-valid flag; a
line takes a new level with the 66th cycle in a row that shows it. That 2 ms are 66 cycles, that the input levels are the
command's operand, sampled once a cycle, and that their filters stand in SUPPLY_WAIT, is the model's inference (log 8). -/
def Obligations.CrystalCycleAdvances : Prop :=
  (∀ (s : State) (inp : Inputs), s.settled → s.st.tb.quiet → s.st.tb.inRange → s.st.seq.state ≠ .supplyWait →
     ∃ t : Station, exec (.crystalCycle inp) s = .next (s.withSt t) ∧
       t = { s.st with
         tb := t.tb
         lines := s.st.lines.sample inp
         seq := if inp.backup then s.st.seq else { s.st.seq with backupValid := false } } ∧
       t.tb.run.cycles = (s.st.tb.run.cycles + 1) % runSpan ∧
       (t.tb.ticks : Int) =
         ((s.st.tb.ticks : Int) + 15625 + s.st.tb.q + (if s.st.tb.run.cyc < s.st.tb.r then 1 else 0)) % (tickSpan : Int) ∧
       t.tb.inRange ∧ t.tb.secondDue = decide (t.tb.run.cyc = 0) ∧
       t.tb.rate = s.st.tb.rate ∧ t.tb.rho = s.st.tb.rho ∧ t.tb.slew = s.st.tb.slew ∧ t.tb.q = s.st.tb.q ∧
       t.tb.r = s.st.tb.r ∧ t.tb.offset = s.st.tb.offset ∧ t.tb.valid = s.st.tb.valid) ∧
  (∀ (s : State) (inp : Inputs), s.settled → s.st.tb.quiet → s.st.tb.inRange → s.st.seq.state = .supplyWait →
     ∃ t : Station, exec (.crystalCycle inp) s = .next (s.withSt t) ∧
       t = { s.st with
         tb := t.tb
         lines := { s.st.lines with backup := inp.backup }
         seq := if inp.backup then s.st.seq else { s.st.seq with backupValid := false } } ∧
       t.tb.run = s.st.tb.run ∧
       (t.tb.ticks : Int) =
         ((s.st.tb.ticks : Int) + 15625 + s.st.tb.q + (if s.st.tb.backupCyc < s.st.tb.r then 1 else 0)) % (tickSpan : Int) ∧
       t.tb.backupCyc = (if s.st.tb.backupCyc + 1 < 32768 then s.st.tb.backupCyc + 1 else 0) ∧
       t.tb.backupDue = decide (t.tb.backupCyc = 0) ∧ t.tb.inRange ∧
       t.tb.rate = s.st.tb.rate ∧ t.tb.rho = s.st.tb.rho ∧ t.tb.slew = s.st.tb.slew ∧ t.tb.q = s.st.tb.q ∧
       t.tb.r = s.st.tb.r ∧ t.tb.offset = s.st.tb.offset ∧ t.tb.valid = s.st.tb.valid) ∧
  ((∀ (l : Lines) (inp : Inputs) (n : Nat) (f : FilteredLine), (l.sample inp).backup = inp.backup ∧
     (l.rest[n]? = some f → (l.sample inp).rest[n]? = some (f.sample (inp.rest.getLsbD n))) ∧
     (l.twelve[n]? = some f → (l.sample inp).twelve[n]? = some (f.sample (inp.twelve.getLsbD n))) ∧
     (l.feedback[n]? = some f → (l.sample inp).feedback[n]? = some (f.sample (inp.feedback.getLsbD n)))) ∧
   (∀ (f : FilteredLine) (raw : Bool),
     (raw = f.level → f.sample raw = ⟨f.level, 0⟩) ∧
     (raw ≠ f.level → f.lasted < 65 → f.sample raw = ⟨f.level, f.lasted + 1⟩) ∧
     (raw ≠ f.level → 65 ≤ f.lasted → f.sample raw = ⟨raw, 0⟩)))

/-- At a local second boundary the correction of the second that begins is formed from rate, remainder and slew, and spread
by floor division; the backup domain spreads the rate part alone. Over 32,768 cycles the advance adds exactly 512,000,000
tick units and the correction, and quotient, remainder and correction lie in their bounds. With the time unset the boundary
arms the mark moment of the local second that begins; a pending FREE is queued, given up 150 s after the last announcement,
or stays pending; and the view is complete again once there is room and 150 s have passed since the last overflow (their
order within the second: log 46). That the boundary sets the backup-valid flag in RUNNING and not in LISTENING is the model's
reading (log 28). -/
def Obligations.SecondsSpreadTheCorrection : Prop :=
  (∀ s : State, s.settled → s.st.tb.secondDue = true →
     ∃ t : Station, exec .localSecondBoundary s = .next (s.withSt t) ∧
       t.tb = { s.st.tb with
         rho := (s.st.tb.rate * 512 + s.st.tb.rho).tmod 1000
         slew := s.st.tb.slew - max (-4000) (min 4000 s.st.tb.slew)
         q := ((s.st.tb.rate * 512 + s.st.tb.rho).tdiv 1000 + max (-4000) (min 4000 s.st.tb.slew) * 512) / 32768
         r := (((s.st.tb.rate * 512 + s.st.tb.rho).tdiv 1000 + max (-4000) (min 4000 s.st.tb.slew) * 512) % 32768).toNat
         secondDue := false } ∧
       t = { s.st with tb := t.tb, ag := { s.st.ag with armed := t.ag.armed }, bus := t.bus, sup := t.sup, seq := t.seq } ∧
       t.sup.draws = s.st.sup.draws ∧ t.sup.circuits = s.st.sup.circuits ∧
       t.ag.armed = (if s.st.running = true ∧ s.st.tb.valid = false then (s.st.cfg.markInRun s.st.tb.run.sec).map MarkMoment.run
         else s.st.ag.armed) ∧
       t.seq = (if s.st.running = true ∧ s.st.seq.supplyGood = true ∧ s.st.lines.backup = true then
         { s.st.seq with backupValid := true } else s.st.seq) ∧
       (s.st.inService = false → t = { s.st with tb := t.tb })) ∧
  ((∀ (s : State) (f : PendingFree), s.settled → s.st.tb.secondDue = true → s.st.running = true → s.st.sup.frees = [f] →
     s.st.sup.waiting = [] → s.st.sup.incomplete = false →
     let old := ∃ a ∈ f.announced, 150 * 32768 ≤ a.elapsed s.st.tb.run
     ∃ t : Station, exec .localSecondBoundary s = .next (s.withSt t) ∧
       (old → t.bus = s.st.bus ∧ t.sup = { s.st.sup with frees := [] }) ∧
       (¬old → s.st.bus.mayQueue = true → s.st.bus.queue.length < 8 →
         t.bus = s.st.bus.append (.free f.id) ∧ t.sup = { s.st.sup with frees := [] }) ∧
       (¬old → s.st.bus.mayQueue = false ∨ 8 ≤ s.st.bus.queue.length → t.bus = s.st.bus ∧ t.sup = s.st.sup)) ∧
   (∀ (s : State) (o : RunTime), s.settled → s.st.tb.secondDue = true → s.st.inService = true → s.st.sup.frees = [] →
     s.st.sup.waiting = [] → s.st.sup.incomplete = true → s.st.sup.lastOverflow = some o →
     ∃ t : Station, exec .localSecondBoundary s = .next (s.withSt t) ∧ t.bus = s.st.bus ∧
       t.sup = (if s.st.sup.heardCount < 38 ∧ 150 * 32768 ≤ o.elapsed s.st.tb.run then { s.st.sup with incomplete := false }
         else s.st.sup))) ∧
  (∀ s : State, s.settled → s.st.tb.backupDue = true →
     exec .backupSecondBoundary s = .next (s.withSt { s.st with tb := { s.st.tb with
       rho := (s.st.tb.rate * 512 + s.st.tb.rho).tmod 1000
       q := (s.st.tb.rate * 512 + s.st.tb.rho).tdiv 1000 / 32768
       r := ((s.st.tb.rate * 512 + s.st.tb.rho).tdiv 1000 % 32768).toNat
       backupDue := false } })) ∧
  ((∀ (q : Int) (r : Nat), r ≤ 32768 →
     ((List.range 32768).map (cycleGain q r)).sum = 512000000 + 32768 * q + (r : Int)) ∧
   (∀ tb : TimeBase, -200000 ≤ tb.rate → tb.rate ≤ 200000 → -999 ≤ tb.rho → tb.rho ≤ 999 →
     -66 ≤ tb.openSecond.q ∧ tb.openSecond.q ≤ 65 ∧ tb.openSecond.r < 32768 ∧ -999 ≤ tb.openSecond.rho ∧ tb.openSecond.rho ≤ 999 ∧
       -2150400 ≤ 32768 * tb.openSecond.q + (tb.openSecond.r : Int) ∧ 32768 * tb.openSecond.q + (tb.openSecond.r : Int) ≤ 2150400))

/-- The weekday, the year and the day of year of every day number, with the range of the day of year in the two kinds of
year. -/
def Obligations.DatesFollowTheCycle : Prop :=
  ∀ n : Nat,
    weekday n = (n + 5) % 7 ∧ weekday 0 = 5 ∧
    (n % 1461 < 366 → dayOfYear n = n % 1461 ∧ yearOf n = 2000 + 4 * (n / 1461) ∧ dayOfYear n ≤ 365) ∧
    (366 ≤ n % 1461 → dayOfYear n = (n % 1461 - 366) % 365 ∧
      yearOf n = 2000 + 4 * (n / 1461) + (1 + (n % 1461 - 366) / 365) ∧ dayOfYear n ≤ 364 ∧
      (n % 1461 - 366) / 365 ≤ 2)

/-- The signed difference of tower times undoes the addition of microseconds with its carries, across midnight and across the
wrap of the day number; civil time is tower time with the offset added. The events that CRYSTAL_CYCLE raises: a tower second
in every run state, and the 30-s, minute, quarter and hour events of a crossing in civil time, across civil midnight too,
only while RUNNING with the time valid, each with its values. Of the minutes that a span passes over the cue entries due are
counted; a span of more than 1,440 minutes is reconciled by the OFFSET entry of the latest firing moment, of equal moments
the highest slot: its last-fired record takes the run time and a civil minute that is a free value (log 15), and its offset is
requested. The civil jump that follows, forward, counts the cue entries of the civil minutes it passes over, at a
reconciliation too, which is the model's choice (log 51). -/
def Obligations.TimesDifferAndCross : Prop :=
  ((∀ (t : TowerTime) (d : Int), t.day < 65536 → t.us < 86400000000 →
     -2831068800000000 ≤ d → d ≤ 2831068800000000 →
     (t.plus d).diff t = d ∧ (t.plus d).day < 65536 ∧ (t.plus d).us < 86400000000) ∧
   (∀ (t : TowerTime) (offset : Nat), t.day < 65536 → t.us < 86400000000 → offset ≤ 180 →
     t.civil offset = t.plus ((offset * 60000000 : Nat) : Int))) ∧
  (∀ (s : State) (inp : Inputs), s.settled → s.st.tb.quiet → s.st.tb.inRange → s.st.tb.offset ≤ 180 →
     ∃ t : Station, exec (.crystalCycle inp) s = .next (s.withSt t) ∧
       let on := s.st.running = true ∧ s.st.tb.valid = true
       let old := s.st.tb.now
       let new := t.tb.now
       let oldCivil := old.plus ((s.st.tb.offset * 60000000 : Nat) : Int)
       let newCivil := new.plus ((s.st.tb.offset * 60000000 : Nat) : Int)
       let crosses := fun unit : Nat => oldCivil.day ≠ newCivil.day ∨ oldCivil.us / unit ≠ newCivil.us / unit
       let quarter := if newCivil.us / 900000000 % 4 = 0 then 4 else newCivil.us / 900000000 % 4
       t.tb.towerSecondDue = (if old.day ≠ new.day ∨ old.us / 1000000 ≠ new.us / 1000000 then
         some ⟨new.day, new.us / 1000000 * 1000000⟩ else none) ∧
       t.tb.dialDue = (if on ∧ crosses 30000000 then some (newCivil.us / 30000000 * 30) else none) ∧
       t.tb.minuteDue = (if on ∧ crosses 60000000 then
         some ⟨newCivil.day, newCivil.us / 60000000, new.day, new.us / 60000000⟩ else none) ∧
       t.tb.quarterDue = (if on ∧ crosses 900000000 then
         some ⟨quarter, newCivil.us / 3600000000, new.day, new.us / 60000000⟩ else none) ∧
       t.tb.hourDue = (if on ∧ crosses 3600000000 then
         some ⟨newCivil.us / 3600000000, newCivil.day, new.day, new.us / 60000000⟩ else none) ∧
       (on → -66 ≤ s.st.tb.q → s.st.tb.q ≤ 65 → oldCivil.day ≠ newCivil.day →
         t.tb.dialDue = some 0 ∧ t.tb.minuteDue = some ⟨newCivil.day, 0, new.day, new.us / 60000000⟩ ∧
           t.tb.quarterDue = some ⟨4, 0, new.day, new.us / 60000000⟩ ∧
           t.tb.hourDue = some ⟨0, newCivil.day, new.day, new.us / 60000000⟩)) ∧
  ((∀ (s : Station) (old : TowerTime) (size : Int), s.running = true → s.tb.valid = true →
     let span := ((old.us : Int) + size) / 60000000 - (old.us : Int) / 60000000
     (s.pg.scanMark = none → s.programmeStep old size = s.reconcile.markScan s.tb.now) ∧
     (s.pg.scanMark ≠ none → size ≤ 0 → s.programmeStep old size = s) ∧
     (s.pg.scanMark ≠ none → 0 < size → 1440 < span → s.programmeStep old size = s.reconcile.markScan s.tb.now) ∧
     (s.pg.scanMark ≠ none → 0 < size → span ≤ 1440 → (∀ c ∈ s.pg.calendar, ∀ e ∈ c, e.entry.work.code ≠ 6) →
       s.programmeStep old size =
         Station.markScan (s.bumpBy .skippedEntries ((List.range span.toNat).map fun (j : Nat) =>
           let b := old.floorMinute.plus (60000000 * ((j : Int) + 1))
           (s.due ⟨(b.civil s.tb.offset).day, (b.civil s.tb.offset).minute, b.day, b.minute⟩).countP fun d => d.2.2.isCue).sum)
           s.tb.now)) ∧
   (∀ (s : Station) (t : TowerTime) (n i off : Nat),
     let b : MinuteEvent := ⟨(t.civil s.tb.offset).day, (t.civil s.tb.offset).minute, t.day, t.minute⟩
     ((s.due b).filter fun d => d.2.2.isOffset) = [(n, i, .offset off)] →
     s.walkMinute t =
       ((s.bumpBy .skippedEntries ((s.due b).countP fun d => d.2.2.isCue)).fire b.civilMinute (n, i, .offset off)).requestOffset off) ∧
   (∀ (now : TowerTime) (calendar : List (Option CalendarSlot)),
     let fires := fun (n k m off : Nat) => k ≤ 366 ∧ (0 < k ∨ m * 60000000 ≤ now.us) ∧
       ∃ c, calendar[n]? = some (some c) ∧ c.entry.work = .offset m off ∧ c.entry.selector.selects (daysBefore now.day k) = true
     (latestFiring now calendar 0 none = none ↔ ∀ n k m off, ¬fires n k m off) ∧
     (∀ f, latestFiring now calendar 0 none = some f →
       fires f.slot f.back f.minute f.offset ∧
         ∀ n k m off, fires n k m off →
           f.back < k ∨ (f.back = k ∧ (m < f.minute ∨ (m = f.minute ∧ n ≤ f.slot))))) ∧
   (∀ s : Station,
     (latestFiring s.tb.now s.pg.calendar 0 none = none → s.reconcile = s) ∧
     (∀ f, latestFiring s.tb.now s.pg.calendar 0 none = some f →
       let last : LastFired := ⟨s.tb.run, Config.reconciledMinute f.minute s.tb.offset⟩
       let fired : Station := { s with pg := { s.pg with
         calendar := s.pg.calendar.modify f.slot fun c => c.map fun c => { c with fired := c.fired.set 0 (some last) } } }
       let moved : Station := { fired with tb := { s.tb with offset := f.offset } }
       (f.offset = s.tb.offset → s.reconcile = fired) ∧
       (f.offset ≠ s.tb.offset → s.running = false → s.reconcile = moved) ∧
       (f.offset ≠ s.tb.offset → s.running = true →
         s.reconcile = ((moved.performJump s.tb.offset).programmeJump s.tb.offset).evaluateDials.reevaluate))) ∧
   (∀ (s : Station) (old : Nat), s.running = true → s.tb.valid = true →
     (s.tb.offset ≤ old → s.programmeJump old = s) ∧
     (old < s.tb.offset → s.programmeJump old =
       Station.markScan (s.bumpBy .skippedEntries ((List.range (s.tb.offset - old)).map fun (j : Nat) =>
         let c := (s.tb.now.civil old).floorMinute.plus (60000000 * ((j : Int) + 1))
         (s.due ⟨c.day, c.us / 60000000, s.tb.day, s.tb.us / 60000000⟩).countP fun d => d.2.2.isCue).sum) s.tb.now)))

/-- A tower second arms the mark moment that lies in it, while RUNNING with the time valid; mark moments stand at the
station's sixteenth of each mark period, in tower time and, for a station whose time is unset, in run time; a moment reached
in RUNNING queues a MARK, and where the queue refuses it, it is gone. With a MARK in the queue the new one takes its slot and
its age, its counts 0, or is held beside the queue while that one is in its attempt. -/
def Obligations.MarkMomentsAreArmedAndSent : Prop :=
  ((∀ (s : State) (t : TowerTime), s.settled → s.st.tb.towerSecondDue = some t →
     exec .towerSecond s = .next (s.withSt { s.st with
       tb := { s.st.tb with towerSecondDue := none }
       ag := if s.st.running && s.st.tb.valid then { s.st.ag with armed := (s.st.cfg.markIn t.day t.second).map MarkMoment.tower }
             else s.st.ag })) ∧
   (∀ (b : StationBlock) (day second : Nat) (m : TowerTime), b.markPeriod = 8 ∨ b.markPeriod = 16 ∨ b.markPeriod = 32 →
     b.number ≤ 14 →
     (b.markIn day second = some m ↔
       m.day = day ∧ m.us / 1000000 = second ∧
         m.us % (b.markPeriod * 1000000) = b.number * b.markPeriod * 1000000 / 16)) ∧
   (∀ (b : StationBlock) (sec : Nat) (m : RunTime), b.markPeriod = 8 ∨ b.markPeriod = 16 ∨ b.markPeriod = 32 → b.number ≤ 14 →
     (b.markInRun sec = some m ↔
       m.sec = sec ∧ m.cyc < 32768 ∧ (m.sec * 32768 + m.cyc) % (b.markPeriod * 32768) = b.number * b.markPeriod * 2048))) ∧
  (∀ s : State, s.settled → s.st.markReached = true → s.st.running = true →
     (∀ q ∈ s.st.bus.queue, q.frame.isMark = false) →
     exec .markMoment s = .next (s.withSt (Station.queued { s.st with ag := { s.st.ag with armed := none } } (.mark none)))) ∧
  (∀ (s : State) (q : QueueSlot), s.settled → s.st.markReached = true → s.st.running = true → s.st.bus.mayQueue = true →
     s.st.bus.queue.find? (fun o => o.frame.isMark) = some q →
     let disarmed : Station := { s.st with ag := { s.st.ag with armed := none } }
     ((∀ c ∈ s.st.bus.current, c.role ≠ .sending q.age) →
       exec .markMoment s = .next (s.withSt { disarmed with bus := { s.st.bus with
         queue := s.st.bus.queue.map fun o => if o.age = q.age then ⟨.mark none, q.age, 0, 0⟩ else o } })) ∧
     (∀ cap, s.st.bus.current = some ⟨cap, .sending q.age⟩ →
       exec .markMoment s = .next (s.withSt { disarmed with bus := { s.st.bus with heldMark := true } })))

/-- A calendar without entries moves the scan mark alone, and so does an entry that does not fire, a SILENT one always; a
LIGHT entry, its time FIXED or from DUSK, that matches puts its scene in force, clears the override flag and records its
firing; a QUARTERS, TUNE or TOLL entry that fires records it and makes its cue request, which is ignored while silenced or for
a tune not playable, and otherwise makes a local record and queues its CUE; an OFFSET entry changes the civil offset and
raises a civil jump. The conditions under which each kind fires, the dates that each selector matches, and the 65 minutes or
other minute that a last firing asks for. The performance unit takes the quarter; an hour boundary that is suppressed is
counted, one silenced, without valid time or without an own hour bell makes nothing (whatever else holds: log 49), and any
other makes the WAITING record of the hour in slot 0 with its strokes and deadlines; a SILENT window covers its minutes,
across midnight for the date on which it begins. A civil jump aborts the tunes and chimes in CUED and PLAYING, their keys
ABORTED in the list and counted, re-bases a toll's next stroke to one interval after the present tower time, one still CUED by
the model's choice (log 19), and, forward, makes up an hour boundary passed 300 s or less back. -/
def Obligations.CivilBoundariesAreTaken : Prop :=
  ((∀ (s : State) (b : MinuteEvent), s.settled → s.st.tb.minuteDue = some b → s.st.pg.calendar = List.replicate 96 none →
     exec .civilMinute s = .next (s.withSt { s.st with
       tb := { s.st.tb with minuteDue := none }
       pg := { s.st.pg with scanMark := some (b.towerDay, b.towerMinute) } })) ∧
   (∀ (s : State) (b : MinuteEvent) (sel : Selector) (time : LightTime) (scene : Nat) (f : Option LastFired), s.settled →
     s.st.tb.minuteDue = some b → s.st.pg.calendar = some ⟨⟨sel, .light time scene⟩, [f]⟩ :: List.replicate 95 none →
     s.st.pg.lightMinute b.civilDay s.st.tb.offset time = some b.civilMinute →
     sel.selects b.civilDay = true → firedAllows f s.st.tb.run b.civilMinute = true →
     (∀ c ∈ s.st.sup.circuits, c.state = .unused) →
     exec .civilMinute s = .next (s.withSt { s.st with
       tb := { s.st.tb with minuteDue := none }
       pg := { s.st.pg with
         calendar := some ⟨⟨sel, .light time scene⟩, [some ⟨s.st.tb.run, b.civilMinute⟩]⟩ :: List.replicate 95 none
         scanMark := some (b.towerDay, b.towerMinute) }
       sup := { s.st.sup with scene := scene, override := false } }))) ∧
  ((∀ (s : State) (b : MinuteEvent) (e : CalendarEntry) (fired : List (Option LastFired)) (i beat count : Nat) (k : Key), s.settled →
     s.st.tb.minuteDue = some b → s.st.pg.calendar = some ⟨e, fired⟩ :: List.replicate 95 none →
     (CalendarSlot.mk e fired).due s.st.pg s.st.cfg.cueCapable s.st.tb.offset s.st.tb.run b = some (i, .cue k beat count) →
     let asked : Station := Station.cueRequest { s.st with
       tb := { s.st.tb with minuteDue := none }
       pg := { s.st.pg with
         calendar := some ⟨e, fired.set i (some ⟨s.st.tb.run, b.civilMinute⟩)⟩ :: List.replicate 95 none } } k beat count
     exec .civilMinute s = .next (s.withSt { asked with pg := { asked.pg with scanMark := some (b.towerDay, b.towerMinute) } })) ∧
   (∀ (s : State) (b : MinuteEvent) (sel : Selector) (off : Nat) (f : Option LastFired), s.settled → s.st.tb.minuteDue = some b →
     s.st.pg.calendar = some ⟨⟨sel, .offset b.towerMinute off⟩, [f]⟩ :: List.replicate 95 none →
     sel.selects b.towerDay = true → firedAllows f s.st.tb.run b.civilMinute = true → s.st.running = true → s.st.tb.valid = true →
     s.st.cfg.hourBell = none → (∀ r ∈ s.st.pf.table, r = none) → (∀ x ∈ s.st.dials, x.state = .unused) →
     (∀ c ∈ s.st.sup.circuits, c.state = .unused) →
     let fired : Programme := { s.st.pg with
       calendar := some ⟨⟨sel, .offset b.towerMinute off⟩, [some ⟨s.st.tb.run, b.civilMinute⟩]⟩ :: List.replicate 95 none
       scanMark := some (b.towerDay, b.towerMinute) }
     (off = s.st.tb.offset → exec .civilMinute s = .next (s.withSt { s.st with
       tb := { s.st.tb with minuteDue := none }, pg := fired })) ∧
     (off ≠ s.st.tb.offset → exec .civilMinute s = .next (s.withSt { s.st with
       tb := { s.st.tb with minuteDue := none, offset := off }
       pg := if s.st.tb.offset < off then { fired with scanMark := some (s.st.tb.day, s.st.tb.us / 60000000) } else fired
       sup := if s.st.sup.override then s.st.sup else { s.st.sup with scene := 0 } })))) ∧
  (∀ (p : Programme) (capable : Bool) (offset : Nat) (now : RunTime) (b : MinuteEvent) (sel : Selector) (fired : List (Option LastFired)),
     (∀ t1 t2 t3 t4 a z beat,
       let q := if b.civilMinute / 15 % 4 = 0 then 4 else b.civilMinute / 15 % 4
       let tune := if q = 1 then t1 else if q = 2 then t2 else if q = 3 then t3 else t4
       let hour := b.civilMinute / 60
       (CalendarSlot.mk ⟨sel, .quarters t1 t2 t3 t4 a z beat⟩ fired).due p capable offset now b =
         if capable = true ∧ b.civilMinute % 15 = 0 ∧ (if a ≤ z then a ≤ hour ∧ hour ≤ z else a ≤ hour ∨ hour ≤ z) ∧ tune ≠ 0 ∧
             sel.selects b.civilDay = true ∧ p.silentAt b.civilDay b.civilMinute = false ∧
             firedAllows (fired.getD (q - 1) none) now b.civilMinute = true then
           some (q - 1, .cue ⟨.quarter, tune, q, b.towerDay, b.towerMinute⟩ beat 0) else none) ∧
     (∀ m tune beat, (CalendarSlot.mk ⟨sel, .tune m tune beat⟩ fired).due p capable offset now b =
       if capable = true ∧ b.civilMinute = m ∧ sel.selects b.civilDay = true ∧
           firedAllows (fired.getD 0 none) now b.civilMinute = true then
         some (0, .cue ⟨.tune, tune, 0, b.towerDay, b.towerMinute⟩ beat 0) else none) ∧
     (∀ m bell interval count, (CalendarSlot.mk ⟨sel, .toll m bell interval count⟩ fired).due p capable offset now b =
       if capable = true ∧ b.civilMinute = m ∧ sel.selects b.civilDay = true ∧
           firedAllows (fired.getD 0 none) now b.civilMinute = true then
         some (0, .cue ⟨.toll, bell, 0, b.towerDay, b.towerMinute⟩ interval count) else none)) ∧
  ((∀ (s : Station) (k : Key) (beat count : Nat), k.cls ≠ .hour →
     (s.pf.silenced = true ∨ s.running = false ∨ (k.cls ≠ .toll ∧ ∀ t, s.pg.tune k.number = some t → t.state = .opened) →
       s.cueRequest k beat count = s.bump .ignoredCues)) ∧
   (∀ (s : Station) (k : Key) (beat count slot : Nat), k.cls ≠ .hour → k.day < 65536 → k.minute < 1440 → s.pf.silenced = false →
     s.running = true → s.pf.slotOf k = none → s.pf.isRecent k = false → s.record 0 = none → s.pf.freeSlot = some slot →
     s.bus.mayQueue = true → s.bus.queue.length < 8 → s.cfg.cueLead ≤ 5000 →
     let start := (TowerTime.ofMinute k.day k.minute).plus ((s.cfg.cueLead * 1000 : Nat) : Int)
     s.tb.now.diff (start.plus (-1500000)) < 0 →
     (k.cls = .toll ∨ ∃ t, s.pg.tune k.number = some t ∧ t.state ≠ .opened) →
     ∃ r : Record, s.cueRequest k beat count =
         { s.setRecord slot (some r) with bus := s.bus.append (.cue k s.cfg.cueLead r.beat r.length) } ∧
       r.key = k ∧ r.state = .cued ∧ r.start = start ∧ r.origin = .localCue ∧ r.frameState = .queued ∧ r.cursor = 0 ∧ r.entriesOut = 0 ∧
       (k.cls = .toll → r.beat = max 1000 (min 60000 beat) ∧ r.length = count ∧ r.hasPart = s.cfg.isOwn k.number) ∧
       (k.cls ≠ .toll → ∀ t, s.pg.tune k.number = some t →
         r.beat = max 150 (min 2000 (if beat = 0 then t.beat else beat)) ∧ r.length = max 1 (min 4096 t.length) ∧
           (r.hasPart = true ↔ t.state ≠ .opened ∧ 0 < t.own)))) ∧
  (∀ (s : State) (q : QuarterEvent), s.settled → s.st.tb.quarterDue = some q →
     exec .civilQuarter s = .next (s.withSt { s.st with
       tb := { s.st.tb with quarterDue := none }, pf := { s.st.pf with quarter := some q } })) ∧
  (∀ (s : State) (e : HourEvent) (bell : Nat), s.settled → s.st.tb.hourDue = some e → s.st.cfg.hourBell = some bell →
     s.st.cfg.isOwn bell = true → s.st.pf.silenced = false → s.st.tb.valid = true →
     let late := ∃ t ∈ s.st.pf.lastHour, t.elapsed s.st.tb.run < 3000 * 32768
     let key : Key := ⟨.hour, 0, 0, e.towerDay, e.towerMinute⟩
     let suppressed := s.st.pg.silentAt e.civilDay (e.civilHour * 60) = true ∨ late ∨ (s.st.record 0).isSome ∨ s.st.pf.isRecent key = true
     (suppressed →
       exec .civilHour s = .next (s.withSt (Station.bump { s.st with tb := { s.st.tb with hourDue := none } } .suppressedHours))) ∧
     (¬suppressed → s.st.pf.chimeRecent e.towerDay e.towerMinute = false →
       ∃ r : Record, exec .civilHour s = .next (s.withSt (Station.setRecord { s.st with tb := { s.st.tb with hourDue := none } } 0 (some r))) ∧
         r.key = key ∧ r.state = .waiting ∧ r.length = (e.civilHour + 11) % 12 + 1 ∧ r.beat = s.st.cfg.hourInterval ∧ r.hasPart = true ∧
         r.cursor = 0 ∧ r.entriesOut = 0 ∧ r.firstLaunched = false ∧
         r.deadline1 = some (s.st.tb.run.plus (msCycles (s.st.cfg.cueLead + 1000))) ∧
         r.deadline2 = some (s.st.tb.run.plus (60 * 32768)))) ∧
  (∀ (s : State) (e : HourEvent), s.settled → s.st.tb.hourDue = some e →
     s.st.pf.silenced = true ∨ s.st.tb.valid = false ∨ (∀ bell ∈ s.st.cfg.hourBell, s.st.cfg.isOwn bell = false) →
     exec .civilHour s = .next (s.withSt { s.st with tb := { s.st.tb with hourDue := none } })) ∧
  (∀ (sel : Selector) (a b day minute : Nat),
     ((CalendarEntry.mk sel (.silent a b)).covers day minute = true ↔
       (a < b ∧ sel.selects day = true ∧ a ≤ minute ∧ minute < b) ∨
       (b ≤ a ∧ sel.selects day = true ∧ a ≤ minute) ∨
       (b ≤ a ∧ sel.selects (dayBefore day) = true ∧ minute < b))) ∧
  (∀ (s : State) (b : MinuteEvent) (sel : Selector) (off : Nat) (f : Option LastFired), s.settled → s.st.tb.minuteDue = some b →
     s.st.pg.calendar = some ⟨⟨sel, .offset b.towerMinute off⟩, [f]⟩ :: List.replicate 95 none →
     sel.selects b.towerDay = true → firedAllows f s.st.tb.run b.civilMinute = true → s.st.running = true → s.st.tb.valid = true →
     s.st.unfitted → off ≠ s.st.tb.offset →
     let fired : Programme := { s.st.pg with
       calendar := some ⟨⟨sel, .offset b.towerMinute off⟩, [some ⟨s.st.tb.run, b.civilMinute⟩]⟩ :: List.replicate 95 none
       scanMark := some (if s.st.tb.offset < off then (s.st.tb.day, s.st.tb.us / 60000000) else (b.towerDay, b.towerMinute)) }
     let jumped : Station := { s.st with
       tb := { s.st.tb with minuteDue := none, offset := off }, pg := fired
       sup := if s.st.sup.override then s.st.sup else { s.st.sup with scene := 0 } }
     (s.st.cfg.hourBell = none → ∀ slot r, slot < 6 → s.st.pf.table = (List.replicate 6 none).set slot (some r) →
       (r.key.cls = .tune ∨ r.key.cls = .quarter → r.state = .cued ∨ r.state = .playing → (∀ m ∈ r.marks, m.holds = false) →
         r.frameState ≠ .queued →
         exec .civilMinute s = .next (s.withSt (Station.bump { jumped with pf := { s.st.pf with
           table := List.replicate 6 none
           recent := (if s.st.pf.recent.length < 8 then s.st.pf.recent else s.st.pf.recent.drop 1) ++
             [⟨r.key, .aborted, s.st.tb.run⟩] } } .stepAborts))) ∧
       (r.key.cls = .toll → r.hasPart = true → r.state = .playing ∨ r.state = .cued → r.entriesOut = 0 → 2000 ≤ r.beat →
         r.beat ≤ 60000 → (∀ k ∈ s.st.cfg.channels, k.lead ≤ 400) → s.st.tb.inRange →
         exec .civilMinute s = .next (s.withSt (jumped.setRecord slot (some { r with
           nextTarget := s.st.tb.now.plus ((r.beat * 1000 : Nat) : Int) }))))) ∧
     (∀ bell, s.st.cfg.hourBell = some bell → s.st.cfg.isOwn bell = true → s.st.pf.silenced = false →
       s.st.pf.table = List.replicate 6 none → (∀ t ∈ s.st.pf.lastHour, 3000 * 32768 ≤ t.elapsed s.st.tb.run) →
       s.st.tb.offset < off →
       let civil := s.st.tb.now.civil off
       let hour := civil.us / 3600000000
       let tower := (TowerTime.mk civil.day (hour * 3600000000)).plus (-((off * 60000000 : Nat) : Int))
       civil.us - hour * 3600000000 < (off - s.st.tb.offset) * 60000000 →
       civil.us - hour * 3600000000 ≤ 300000000 →
       (∀ k ∈ s.st.pf.recent, k.key ≠ ⟨.hour, 0, 0, tower.day, tower.us / 60000000⟩ ∧
         k.key.isHourChime tower.day (tower.us / 60000000) = false) →
       ∃ r : Record, exec .civilMinute s = .next (s.withSt (jumped.setRecord 0 (some r))) ∧
         r.key = ⟨.hour, 0, 0, tower.day, tower.us / 60000000⟩ ∧ r.state = .waiting ∧ r.length = (hour + 11) % 12 + 1 ∧
         r.deadline1 = some (s.st.tb.run.plus (msCycles (s.st.cfg.cueLead + 1000))) ∧
         r.deadline2 = some (s.st.tb.run.plus (60 * 32768)))) ∧
  (∀ (s : State) (b : MinuteEvent) (c : CalendarSlot), s.settled → s.st.tb.minuteDue = some b →
     s.st.pg.calendar = some c :: List.replicate 95 none →
     c.due s.st.pg s.st.cfg.cueCapable s.st.tb.offset s.st.tb.run b = none →
     exec .civilMinute s = .next (s.withSt { s.st with
       tb := { s.st.tb with minuteDue := none }
       pg := { s.st.pg with scanMark := some (b.towerDay, b.towerMinute) } })) ∧
  (∀ (p : Programme) (capable : Bool) (offset : Nat) (now : RunTime) (b : MinuteEvent) (sel : Selector) (fired : List (Option LastFired)),
     (∀ time scene, (CalendarSlot.mk ⟨sel, .light time scene⟩ fired).due p capable offset now b =
       if p.lightMinute b.civilDay offset time = some b.civilMinute ∧ sel.selects b.civilDay = true ∧
           firedAllows (fired.getD 0 none) now b.civilMinute = true then some (0, .scene scene) else none) ∧
     (∀ m off, (CalendarSlot.mk ⟨sel, .offset m off⟩ fired).due p capable offset now b =
       if b.towerMinute = m ∧ sel.selects b.towerDay = true ∧ firedAllows (fired.getD 0 none) now b.civilMinute = true then
         some (0, .offset off) else none) ∧
     (∀ a z, (CalendarSlot.mk ⟨sel, .silent a z⟩ fired).due p capable offset now b = none)) ∧
  (∀ (f : Option LastFired) (now : RunTime) (minute : Nat),
     firedAllows f now minute = true ↔ ∀ l ∈ f, 3900 * 32768 < l.run.elapsed now ∨ l.minute ≠ minute) ∧
  (∀ (mask a b day : Nat),
     let weekday := mask / 2 ^ ((day + 5) % 7) % 2 = 1
     ((Selector.weekly mask).selects day = true ↔ weekday) ∧ ((Selector.date a).selects day = true ↔ day = a) ∧
     ((Selector.season mask a b).selects day = true ↔ weekday ∧
       (if a ≤ b then a ≤ dayOfYear day ∧ dayOfYear day ≤ b else a ≤ dayOfYear day ∨ dayOfYear day ≤ b)))

/-- For every day of year the dusk minute is the entry before it plus the step divided by 8 and rounded, halves away from
zero, and lies between the two entries around it; a DUSK entry's civil time adds the civil offset in force and the entry's
own, clamped to the day. The scene in force is that of the LIGHT entry with the latest time at or before the minute, of equal
times the highest slot, of the date or else of the day before, or scene 0. -/
def Obligations.DuskFollowsTheTable : Prop :=
  (∀ (p : Programme) (d : Nat), d ≤ 365 →
    let k := d / 8
    let step := (p.duskEntry (k + 1) - p.duskEntry k) * (((d - 8 * k : Nat) : Int))
    let quotient := if 0 ≤ step then (2 * step + 8) / 16 else -((2 * (-step) + 8) / 16)
    p.duskEntry 46 = p.duskEntry 0 ∧ k ≤ 45 ∧
    p.duskMinute d = p.duskEntry k + quotient ∧
    min (p.duskEntry k) (p.duskEntry (k + 1)) ≤ p.duskMinute d ∧ p.duskMinute d ≤ max (p.duskEntry k) (p.duskEntry (k + 1)) ∧
    (p.duskPresent = true → ∀ (day offset : Nat) (off : Int), dayOfYear day = d →
      p.lightMinute day offset (.dusk off) = some (max 0 (min 1439 (p.duskMinute d + (offset : Int) + off))).toNat)) ∧
  (∀ (p : Programme) (day offset upTo : Nat),
    let lights := fun (n m scene : Nat) => m ≤ upTo ∧ ∃ c time, p.calendar[n]? = some (some c) ∧ c.entry.work = .light time scene ∧
      c.entry.selector.selects day = true ∧ p.lightMinute day offset time = some m
    (p.lastLight day offset upTo = none ↔ ∀ n m scene, ¬lights n m scene) ∧
    (∀ m scene, p.lastLight day offset upTo = some (m, scene) →
      ∃ n, lights n m scene ∧ ∀ n' m' scene', lights n' m' scene' → m' < m ∨ (m' = m ∧ n' ≤ n))) ∧
  (∀ (p : Programme) (t : TowerTime) (offset : Nat),
    (∀ m scene, p.lastLight t.day offset (t.us / 60000000) = some (m, scene) → p.sceneAt t offset = scene) ∧
    (p.lastLight t.day offset (t.us / 60000000) = none →
      (∀ m scene, p.lastLight (dayBefore t.day) offset 1439 = some (m, scene) → p.sceneAt t offset = scene) ∧
      (p.lastLight (dayBefore t.day) offset 1439 = none → p.sceneAt t offset = 0)))

/-! ## The bus controller -/

/-- A station that may drive a start bit sends the slot with the lowest arbitration word, the oldest among equals, its MARK
filled with the fields of that cycle; a start bit of another station is captured, and in GUARDED a wait of 8 more bits that it
falls in is to begin again, while one that has run out is over. -/
def Obligations.StartBitBeginsAFrame : Prop :=
  ((∀ (s : State) (recessive : Nat) (q : QueueSlot), s.settled → s.st.running = true → s.st.bus.mayQueue = true →
     s.st.bus.current = none → s.st.bus.offer s.st.cfg.number = some q →
     (match s.st.bus.wait with
       | .joining => 12
       | .afterFrame => 3
       | .gaveUp => 10) + (if s.st.bus.guardedWait = true ∧ s.st.bus.state = .guarded then 8 else 0) ≤ recessive →
     let f : Frame := match q.frame with
       | .mark _ => .mark (some ⟨s.st.tb.day, s.st.tb.us, s.st.stratum, s.st.ag.followed, s.st.tb.valid, s.st.ag.stepped,
           decide (s.st.ag.refState = .locked)⟩)
       | g => g
     exec (.startBit true recessive) s = .next (s.withSt { s.st with
       bus := { s.st.bus with
         queue := s.st.bus.queue.map fun o => if o.age = q.age then { o with frame := f } else o
         current := some ⟨s.st.tb.capture, .sending q.age⟩
         guardedWait := false
         drive := .frame (false :: frameBits (f.word s.st.cfg.number) f.payload) }
       ag := { s.st.ag with steppedInAttempt := if q.frame.isMark then false else s.st.ag.steppedInAttempt } })) ∧
   (∀ (s : State) (recessive : Nat), s.settled → s.st.inService = true → s.st.bus.current = none →
     (match s.st.bus.wait with
       | .joining => 12
       | .afterFrame => 0
       | .gaveUp => 10) ≤ recessive →
     let idle := match s.st.bus.wait with
       | .joining => 12
       | .afterFrame => 3
       | .gaveUp => 10
     exec (.startBit false recessive) s = .next (s.withSt { s.st with
       bus := { s.st.bus with
         current := some ⟨s.st.tb.capture, .receiving⟩, drive := .released
         guardedWait := s.st.bus.guardedWait && decide (s.st.bus.state = .guarded ∧ recessive < idle + 8) } }))) ∧
  (∀ (b : Bus) (n : Nat), (b.queue = [] → b.offer n = none) ∧
     (b.queue ≠ [] → ∃ q ∈ b.queue, b.offer n = some q ∧
       ∀ o ∈ b.queue, q.frame.word n < o.frame.word n ∨ (q.frame.word n = o.frame.word n ∧ q.age ≤ o.age)))

/-- A station that loses arbitration goes on as a receiver, its frame unchanged in its slot. An error below the eighth is
counted in the slot, the send count rises by 8, an ACTIVE station breaks the frame, and GUARDED is entered at 96 with its
flag; the eighth removes the frame, reported DROPPED, and counts an error drop: a CUE's record is then UNDELIVERED, a renewal
sets its flag, a new draw waits again and is queued afresh if it fits. A MARK held beside the queue takes the slot and the age
of the older one after a loss or an error, and after the eighth error it is queued afresh, which is the model's choice (log
42). Past 255 MUTE is entered with its flag and the queue is flushed. The 8 more bits are waited for when the state after the
count is GUARDED. A BREAK error of an ACTIVE sender drives a break of its own (log 27); a loss is waited for
by the state of its moment (log 59). -/
def Obligations.FailedAttemptsAreCounted : Prop :=
  (∀ (s : State) (cap : Capture) (age : Nat), s.settled → s.st.bus.current = some ⟨cap, .sending age⟩ →
     let lost : Bus := { s.st.bus with
       current := some ⟨cap, .receiving⟩, drive := .released, guardedWait := decide (s.st.bus.state = .guarded) }
     (s.st.bus.heldMark = false → exec .arbitrationLost s = .next (s.withSt { s.st with bus := lost })) ∧
     (s.st.bus.heldMark = true → exec .arbitrationLost s = .next (s.withSt { s.st with bus := { lost with
       heldMark := false, queue := s.st.bus.queue.map fun o => if o.age = age then ⟨.mark none, age, 0, 0⟩ else o } }))) ∧
  (∀ (s : State) (e : TxError) (cap : Capture) (q : QueueSlot), s.settled → s.st.running = true → s.st.bus.mayQueue = true →
     s.st.bus.agrees → s.st.bus.current = some ⟨cap, .sending q.age⟩ → s.st.bus.slotAt q.age = some q →
     s.st.bus.send + 8 ≤ 255 →
     let new := busStateOf (s.st.bus.send + 8) s.st.bus.hear
     let failed : Bus := { s.st.bus with
       current := none, wait := .gaveUp, drive := if s.st.bus.state = .active then .brk else .released,
       guardedWait := decide (new = .guarded), send := s.st.bus.send + 8, state := new }
     let flagged := fun p : Panel => if s.st.bus.state = .active ∧ new = .guarded then p.raise .busGuarded else p
     let others := s.st.bus.queue.filter fun o => decide (o.age ≠ q.age)
     let dropped : Station := { s.st with bus := { failed with queue := others }, panel := flagged (s.st.panel.bump .errorDrops) }
     (q.errors + 1 < 8 → s.st.bus.heldMark = false →
       exec (.attemptError e) s = .next (s.withSt { s.st with
         bus := { failed with
           queue := s.st.bus.queue.map fun o => if o.age = q.age then { o with errors := o.errors + 1 } else o }
         panel := flagged s.st.panel })) ∧
     (q.errors + 1 < 8 → s.st.bus.heldMark = true →
       exec (.attemptError e) s = .next (s.withSt { s.st with
         bus := { failed with
           heldMark := false, queue := s.st.bus.queue.map fun o => if o.age = q.age then ⟨.mark none, q.age, 0, 0⟩ else o }
         panel := flagged s.st.panel })) ∧
     (8 ≤ q.errors + 1 → s.st.bus.heldMark = true → q.frame.isMark = true →
       exec (.attemptError e) s = .next (s.withSt { dropped with bus := { dropped.bus with
         heldMark := false, queue := others ++ [⟨.mark none, s.st.bus.nextAge, 0, 0⟩], nextAge := s.st.bus.nextAge + 1 } })) ∧
     (8 ≤ q.errors + 1 → s.st.bus.heldMark = false →
       (q.frame.isMark = true ∨ q.frame.isReportless = true → exec (.attemptError e) s = .next (s.withSt dropped)) ∧
       (∀ k offset beat length slot r, q.frame = .cue k offset beat length → s.st.pf.slotOf k = some slot →
         s.st.record slot = some r → r.frameState = .queued →
         exec (.attemptError e) s = .next (s.withSt (dropped.setRecord slot (some { r with frameState := .undelivered })))) ∧
       (∀ id amount hold, q.frame = .draw id amount hold .renewal → s.st.sup.waiting = [] →
         exec (.attemptError e) s = .next (s.withSt { dropped with
           panel := flagged ((s.st.panel.bump .errorDrops).raise .budgetUnannounced) })) ∧
       (∀ (i : PendingDraw), q.frame = .draw i.id i.amount i.hold .new → s.st.sup.waiting = [i] → i.queued = true → i.increase = false →
         (s.st.sup.incomplete = true ∨ s.st.placingLimit < s.st.sup.view + i.amount →
           exec (.attemptError e) s = .next (s.withSt { dropped with
             sup := { s.st.sup with waiting := [{ i with queued := false }] } })) ∧
         (s.st.sup.incomplete = false → s.st.sup.view + i.amount ≤ s.st.placingLimit → others.length < 8 →
           exec (.attemptError e) s = .next (s.withSt { dropped with bus := { dropped.bus with
             queue := others ++ [⟨q.frame, s.st.bus.nextAge, 0, 0⟩], nextAge := s.st.bus.nextAge + 1 } }))))) ∧
  (∀ (s : State) (e : TxError) (cap : Capture) (q : QueueSlot) (id : Nat), s.settled → s.st.running = true →
     s.st.bus.state = .guarded → s.st.bus.current = some ⟨cap, .sending q.age⟩ → s.st.bus.queue = [q] → q.frame = .free id →
     q.errors + 1 < 8 → s.st.bus.heldMark = false → 255 < s.st.bus.send + 8 →
     exec (.attemptError e) s = .next (s.withSt { s.st with
       bus := { s.st.bus with
         current := none, wait := .gaveUp, drive := .released, guardedWait := false, send := s.st.bus.send + 8, state := .mute,
         spans := 0, spanBits := 0, queue := [], heldMark := false }
       panel := s.st.panel.raise .busMute }))

/-- A frame heard leaves the queue and the send count falls by one; a CUE, HALT, DRAW or FREE is offered again until its third
unheard attempt, which removes and counts it; a MARK or an ANSWER is removed at its first, and a MARK that completes begins the
stepped condition afresh. A CUE's record is then HEARD or UNDELIVERED, and a renewal, heard or not, is announced, for the 150 s
of a FREE of its id still pending too (R171); a DRAW that its consumer had given up has its FREE queued, one of the id still
pending with it (log 58). A MARK held beside the queue takes the slot that the older one frees. The 8 more bits are waited for
when the state after the count is GUARDED. -/
def Obligations.CompletedAttemptsAreReported : Prop :=
  (∀ (s : State) (cap : Capture) (q : QueueSlot), s.settled → s.st.running = true → s.st.bus.mayQueue = true → s.st.bus.agrees →
     s.st.bus.current = some ⟨cap, .sending q.age⟩ → s.st.bus.slotAt q.age = some q →
     let others := s.st.bus.queue.filter fun o => decide (o.age ≠ q.age)
     let heard : Station := { s.st with bus := { s.st.bus with
       current := none, wait := .afterFrame, drive := .released
       guardedWait := decide (busStateOf (s.st.bus.send - 1) s.st.bus.hear = .guarded)
       send := s.st.bus.send - 1, state := busStateOf (s.st.bus.send - 1) s.st.bus.hear, queue := others } }
     let marked : Agreement := { s.st.ag with stepped := s.st.ag.steppedInAttempt }
     (s.st.bus.heldMark = false → q.frame.isReportless = true → exec .attemptCompleteHeard s = .next (s.withSt heard)) ∧
     (s.st.bus.heldMark = false → q.frame.isMark = true →
       exec .attemptCompleteHeard s = .next (s.withSt { heard with ag := marked })) ∧
     (s.st.bus.heldMark = true → q.frame.isMark = true →
       exec .attemptCompleteHeard s = .next (s.withSt { heard with
         ag := marked
         bus := { heard.bus with
           heldMark := false, queue := others ++ [⟨.mark none, s.st.bus.nextAge, 0, 0⟩], nextAge := s.st.bus.nextAge + 1 } })) ∧
     (s.st.bus.heldMark = false → ∀ k offset beat length slot r, q.frame = .cue k offset beat length →
       s.st.pf.slotOf k = some slot → s.st.record slot = some r → r.frameState = .queued →
       exec .attemptCompleteHeard s = .next (s.withSt (heard.setRecord slot (some { r with frameState := .heard }))))) ∧
  (∀ (s : State) (cap : Capture) (q : QueueSlot), s.settled → s.st.bus.current = some ⟨cap, .sending q.age⟩ →
     s.st.bus.slotAt q.age = some q → s.st.bus.heldMark = false →
     let after : Bus := { s.st.bus with
       current := none, wait := .afterFrame, drive := .released, guardedWait := decide (s.st.bus.state = .guarded) }
     let without : Bus := { after with queue := s.st.bus.queue.filter fun o => decide (o.age ≠ q.age) }
     (q.frame.oneHearing = false → q.unheard + 1 < 3 →
       exec .attemptCompleteUnheard s = .next (s.withSt { s.st with bus := { after with
         queue := s.st.bus.queue.map fun o => if o.age = q.age then { o with unheard := o.unheard + 1 } else o } })) ∧
     (q.frame.isPlain = true → 3 ≤ q.unheard + 1 →
       exec .attemptCompleteUnheard s = .next (s.withSt (Station.bump { s.st with bus := without } .unheardDrops))) ∧
     (q.frame.isMark = true →
       exec .attemptCompleteUnheard s = .next (s.withSt { s.st with
         bus := without, ag := { s.st.ag with stepped := s.st.ag.steppedInAttempt } })) ∧
     (q.frame.isReportless = true → q.frame.isPlain = false →
       exec .attemptCompleteUnheard s = .next (s.withSt { s.st with bus := without })) ∧
     (3 ≤ q.unheard + 1 → ∀ k offset beat length slot r, q.frame = .cue k offset beat length → s.st.pf.slotOf k = some slot →
       s.st.record slot = some r → r.frameState = .queued →
       exec .attemptCompleteUnheard s = .next (s.withSt ((Station.bump { s.st with bus := without } .unheardDrops).setRecord slot
         (some { r with frameState := .undelivered })))) ∧
     (3 ≤ q.unheard + 1 → ∀ id amount hold, q.frame = .draw id amount hold .renewal → s.st.sup.waiting = [] →
       exec .attemptCompleteUnheard s = .next (s.withSt (Station.bump { s.st with
         bus := without
         sup := { s.st.sup with
           draws := s.st.sup.draws.map fun e =>
             if e.own = true ∧ e.id = id then { e with hold := hold, announced := some s.st.tb.run } else e
           frees := s.st.sup.frees.map fun f => if f.id = id then { f with announced := some s.st.tb.run } else f } } .unheardDrops)))) ∧
  (∀ (s : State) (cap : Capture) (q : QueueSlot) (id amount hold : Nat) (p : DrawPurpose), s.settled → s.st.running = true →
    s.st.bus.mayQueue = true → s.st.bus.agrees → s.st.bus.current = some ⟨cap, .sending q.age⟩ →
    s.st.bus.slotAt q.age = some q → s.st.bus.heldMark = false → q.frame = .draw id amount hold p → s.st.sup.waiting = [] →
    let others := s.st.bus.queue.filter fun o => decide (o.age ≠ q.age)
    let heard : Bus := { s.st.bus with
      current := none, wait := .afterFrame, drive := .released
      guardedWait := decide (busStateOf (s.st.bus.send - 1) s.st.bus.hear = .guarded)
      send := s.st.bus.send - 1, state := busStateOf (s.st.bus.send - 1) s.st.bus.hear, queue := others }
    (p = .renewal ∨ p = .decrease →
      exec .attemptCompleteHeard s = .next (s.withSt { s.st with
        bus := heard
        sup := { s.st.sup with
          draws := s.st.sup.draws.map fun e =>
            if e.own = true ∧ e.id = id then { e with hold := hold, announced := some s.st.tb.run } else e
          frees := s.st.sup.frees.map fun f => if f.id = id then { f with announced := some s.st.tb.run } else f } })) ∧
    (p = .freed → others.length < 8 →
      exec .attemptCompleteHeard s = .next (s.withSt { s.st with
        bus := heard.append (.free id)
        sup := { s.st.sup with frees := s.st.sup.frees.filter fun f => decide (f.id ≠ id) } })))

/-- A FORM or CHECK error found in the bits read counts one on the hear count, up to 127, an ACTIVE station breaks the frame,
one in GUARDED has driven the heard slot of a frame good through its delimiter, and GUARDED is entered at 96 with its flag; a
break discards a frame being received and counts nothing, and with no frame in progress leaves a station that is joining the
line joining it and any other as after a frame given up on (log 41). A good frame that no block takes is counted as good and
changes nothing else; one that bears the station's own number makes the bus state DUPLICATE, with its flag, in RUNNING after
it has been counted as good (log 26). -/
def Obligations.ReceptionsEnd : Prop :=
  ((∀ (s : State) (bits : List Bool) (cap : Capture), s.settled → s.st.running = true → s.st.bus.mayQueue = true → s.st.bus.agrees →
     s.st.bus.current = some ⟨cap, .receiving⟩ →
     (Receiver.start.scan bits = .done .form ∨ Receiver.start.scan bits = .done .check) →
     let new := busStateOf s.st.bus.send (min 127 (s.st.bus.hear + 1))
     exec (.receiveError bits) s = .next (s.withSt { s.st with
       bus := { s.st.bus with
         current := none, wait := .gaveUp
         drive := if s.st.bus.state = .active then .brk else if Receiver.start.heardPassed bits then .heardSlot else .released
         hear := min 127 (s.st.bus.hear + 1), state := new }
       panel := if s.st.bus.state = .active ∧ new = .guarded then s.st.panel.raise .busGuarded else s.st.panel })) ∧
   (∀ (s : State) (cap : Capture), s.settled → s.st.bus.current = some ⟨cap, .receiving⟩ →
     exec .breakReceived s = .next (s.withSt { s.st with
       bus := { s.st.bus with current := none, wait := .gaveUp, drive := .released } })) ∧
   (∀ (s : State), s.settled → s.st.inService = true → s.st.bus.current = none →
     exec .breakReceived s = .next (s.withSt { s.st with
       bus := { s.st.bus with wait := if s.st.bus.wait = .joining then .joining else .gaveUp } })) ∧
   (∀ (word : Nat) (payload : List Byte) (k : Nat), word < 1024 → payload.length ≤ 12 → k ≤ (frameBits word payload).length →
     (Receiver.start.heardPassed ((frameBits word payload).take k) = true ↔ (frameBits word payload).length ≤ k + 7))) ∧
  ((∀ (s : State) (src : Nat) (payload : List Byte) (cap : Capture), s.settled → s.st.Hears src cap →
     exec (.answerReceived src payload) s = .next (s.withSt s.st.heard) ∧
     exec (.frameDiscarded src) s = .next (s.withSt s.st.heard)) ∧
   (∀ (s : State) (payload : List Byte) (cap : Capture), s.settled → s.st.running = false →
     s.st.bus.current = some ⟨cap, .receiving⟩ → s.st.bus.state ≠ .duplicate → s.st.bus.queue = [] →
     let twin : Station := { s.st with
       bus := { s.st.bus with
         current := none, wait := .afterFrame, drive := .released, state := .duplicate, heldMark := false }
       panel := s.st.panel.raise .duplicateStation }
     exec (.answerReceived s.st.cfg.number payload) s = .next (s.withSt twin) ∧
     exec (.frameDiscarded s.st.cfg.number) s = .next (s.withSt twin)) ∧
   (∀ (s : State) (payload : List Byte) (cap : Capture), s.settled → s.st.running = true → s.st.bus.mayQueue = true → s.st.bus.agrees →
     s.st.bus.current = some ⟨cap, .receiving⟩ → s.st.bus.queue = [] →
     let twin : Station := { s.st with
       bus := { s.st.bus with
         current := none, wait := .afterFrame, drive := .heardSlot, hear := s.st.bus.hear - 1, state := .duplicate, heldMark := false }
       panel := s.st.panel.raise .duplicateStation }
     exec (.answerReceived s.st.cfg.number payload) s = .next (s.withSt twin) ∧
     exec (.frameDiscarded s.st.cfg.number) s = .next (s.withSt twin)))

/-- Spans of 12 recessive bits in a row are counted, and the 64th makes the station ACTIVE with its counts 0; before that the
counts alone move on. -/
def Obligations.MuteRecoversAfter64Spans : Prop :=
  (∀ (s : State) (bits : List Bool), s.settled → s.st.running = true → s.st.bus.state = .mute → s.st.bus.current = none →
    s.st.sup.waiting = [] → 64 ≤ (countSpans s.st.bus.spans s.st.bus.spanBits bits).1 →
    exec (.muteRecovery bits) s = .next (s.withSt { s.st with bus := { s.st.bus with
      send := 0, hear := 0, spans := 0, spanBits := 0, state := .active, wait := .afterFrame } })) ∧
  (∀ (s : State) (bits : List Bool), s.settled → s.st.running = true → s.st.bus.state = .mute →
    (countSpans s.st.bus.spans s.st.bus.spanBits bits).1 < 64 →
    exec (.muteRecovery bits) s = .next (s.withSt { s.st with bus := { s.st.bus with
      spans := (countSpans s.st.bus.spans s.st.bus.spanBits bits).1
      spanBits := (countSpans s.st.bus.spans s.st.bus.spanBits bits).2 } })) ∧
  (∀ n k : Nat, n ≤ 64 → k = 768 - 12 * n → countSpans n 0 (List.replicate k true) = (64, 0))

/-! ## The agreement unit -/

/-- With the reference LOCKED the peer table alone takes the MARK's fields, stratum 7 without valid time, in LISTENING and
RUNNING. From the followed source, the only peer heard, an offset below two seconds goes to the pending slew, clamped, and the
previous-mark record is begun; with a record of that source 1 to 255 s old and no step announced the rate update runs too. An
offset of two seconds or more steps. In LISTENING a usable MARK of the only peer brings the station into RUNNING, following
it, by a step while its time is unset. The rate update: whole seconds rounded, the dividend, its truncated quotient added to
the rate, the remainder dropped when the span changes, and the clamp at either end with its flag. That a followed-station byte
above 14 is none (log 22), and that a step takes back a tower second raised and not yet taken (log 10), are the model's
choices. -/
def Obligations.MarksFillThePeerTable : Prop :=
  (∀ (s : State) (src : Nat) (payload : List Byte) (cap : Capture), s.settled → s.st.inService = true → s.st.Hears src cap → src < 15 →
     payload.length = 9 → s.st.ag.refState = .locked →
     exec (.markReceived src payload) s = .next (s.withSt { s.st.heard with ag := { s.st.ag with
       peers := s.st.ag.peers.set src (some
         { stratum := if bitOf (byteAt payload 7) 4 then byteAt payload 7 / 32 else 7
           followed := if byteAt payload 8 < 15 then some (byteAt payload 8) else none
           valid := bitOf (byteAt payload 7) 4
           locked := bitOf (byteAt payload 7) 2
           stepped := bitOf (byteAt payload 7) 3
           markRun := cap.run
           theta := TowerTime.diff ⟨word16 payload 0, word40 payload 2⟩ ⟨cap.day, cap.us⟩ }) } })) ∧
  (∀ (s : State) (src : Nat) (payload : List Byte) (cap : Capture) (theta : Int), s.settled → s.st.running = true → s.st.Hears src cap →
     src < 15 → payload.length = 9 → s.st.ag.refState ≠ .locked → s.st.tb.valid = true → s.st.ag.followed = some src →
     (∀ p ∈ s.st.ag.peers.set src none, p = none) → s.st.ag.peers.length = 15 → s.st.ag.prevMark = none →
     bitOf (byteAt payload 7) 4 = true → byteAt payload 7 / 32 < 6 → byteAt payload 8 ≠ s.st.cfg.number → s.st.cfg.number < 15 →
     theta = TowerTime.diff ⟨word16 payload 0, word40 payload 2⟩ ⟨cap.day, cap.us⟩ → -2000000 < theta → theta < 2000000 →
     exec (.markReceived src payload) s = .next (s.withSt { s.st.heard with
       tb := { s.st.tb with slew := max (-2000000) (min 2000000 (s.st.tb.slew + theta)) }
       ag := { s.st.ag with
         peers := s.st.ag.peers.set src (some (peerOf (markFieldsOf payload) cap))
         prevMark := some { source := .station src, run := cap.run, tau := none } } })) ∧
  (∀ (s : State) (src : Nat) (payload : List Byte) (cap : Capture) (theta : Int) (m : PrevMark), s.settled → s.st.running = true →
     s.st.Hears src cap → src < 15 → payload.length = 9 → s.st.ag.refState ≠ .locked → s.st.tb.valid = true → s.st.ag.followed = some src →
     (∀ p ∈ s.st.ag.peers.set src none, p = none) → s.st.ag.peers.length = 15 →
     s.st.ag.prevMark = some m → m.source = .station src →
     bitOf (byteAt payload 7) 4 = true → byteAt payload 7 / 32 < 6 → byteAt payload 8 ≠ s.st.cfg.number → s.st.cfg.number < 15 →
     theta = TowerTime.diff ⟨word16 payload 0, word40 payload 2⟩ ⟨cap.day, cap.us⟩ →
     -2000000 < theta → theta < 2000000 →
     let tau := (m.run.elapsed cap.run + 16384) / 32768
     let dividend := theta * 250 + (if m.tau = some tau then s.st.ag.rateRem else 0)
     let rate := s.st.tb.rate + dividend.tdiv tau
     let slewed : TimeBase := { s.st.tb with slew := max (-2000000) (min 2000000 (s.st.tb.slew + theta)) }
     let peers := s.st.ag.peers.set src (some (peerOf (markFieldsOf payload) cap))
     (tau = 0 ∨ 255 < tau ∨ bitOf (byteAt payload 7) 3 = true →
       exec (.markReceived src payload) s = .next (s.withSt { s.st.heard with
         tb := slewed
         ag := { s.st.ag with peers := peers, prevMark := some { source := .station src, run := cap.run, tau := none } } })) ∧
     (1 ≤ tau → tau ≤ 255 → bitOf (byteAt payload 7) 3 = false → -200000 ≤ rate → rate ≤ 200000 →
       exec (.markReceived src payload) s = .next (s.withSt { s.st.heard with
         tb := { slewed with rate := rate }
         ag := { s.st.ag with
           peers := peers, rateRem := dividend.tmod tau
           prevMark := some { source := .station src, run := cap.run, tau := some tau } } }))) ∧
  (∀ (s : State) (src : Nat) (payload : List Byte) (cap : Capture) (theta : Int), s.settled → s.st.running = true →
     s.st.Hears src cap → src < 15 → payload.length = 9 → s.st.ag.refState ≠ .locked → s.st.tb.valid = true → s.st.ag.followed = some src →
     (∀ p ∈ s.st.ag.peers.set src none, p = none) → s.st.ag.peers.length = 15 →
     bitOf (byteAt payload 7) 4 = true → byteAt payload 7 / 32 < 6 → byteAt payload 8 ≠ s.st.cfg.number → s.st.cfg.number < 15 →
     theta = TowerTime.diff ⟨word16 payload 0, word40 payload 2⟩ ⟨cap.day, cap.us⟩ →
     theta ≤ -2000000 ∨ 2000000 ≤ theta →
     ∃ t : Station, exec (.markReceived src payload) s = .next (s.withSt t) ∧ t.tb.now = s.st.tb.now.plus theta ∧
       t.tb = { s.st.tb with
         day := t.tb.day, us := t.tb.us, offset := t.tb.offset, slew := 0, towerSecondDue := none } ∧
       t.panel.flag .timeStep = true ∧ t.ag.rateRem = 0 ∧ t.ag.stepped = true ∧ t.ag.followed = some src ∧
       t.ag.peers = s.st.ag.peers.set src (some (peerOf (markFieldsOf payload) cap)) ∧
       t.ag.prevMark = some { source := .station src, run := cap.run, tau := none }) ∧
  (∀ (s : State) (src : Nat) (payload : List Byte) (cap : Capture) (theta : Int), s.settled → s.st.seq.state = .listening →
     s.st.Hears src cap → src < 15 → payload.length = 9 → s.st.ag.refState ≠ .locked →
     (∀ p ∈ s.st.ag.peers.set src none, p = none) → s.st.ag.peers.length = 15 →
     bitOf (byteAt payload 7) 4 = true → byteAt payload 7 / 32 < 6 → byteAt payload 8 ≠ s.st.cfg.number → s.st.cfg.number < 15 →
     theta = TowerTime.diff ⟨word16 payload 0, word40 payload 2⟩ ⟨cap.day, cap.us⟩ →
     ∃ t : Station, exec (.markReceived src payload) s = .next (s.withSt t) ∧
       t.seq = { s.st.seq with state := .running, timeout := none } ∧ t.ag.followed = some src ∧
       t.ag.peers = s.st.ag.peers.set src (some (peerOf (markFieldsOf payload) cap)) ∧ t.tb.valid = true ∧
       t.sup.quietEnd = some (s.st.tb.run.plus (150 * 32768)) ∧
       (s.st.tb.valid = false ∨ theta ≤ -2000000 ∨ 2000000 ≤ theta →
         t.tb.now = s.st.tb.now.plus theta ∧ t.tb.slew = 0 ∧ t.panel.flag .timeStep = true ∧
           t.ag.prevMark = some { source := .station src, run := cap.run, tau := none }) ∧
       (s.st.tb.valid = true → -2000000 < theta → theta < 2000000 →
         t.tb.now = s.st.tb.now ∧ t.tb.slew = max (-2000000) (min 2000000 (s.st.tb.slew + theta)))) ∧
  ((∀ old now : RunTime, tauOf old now = (old.elapsed now + 16384) / 32768) ∧
   (∀ (s : Station) (theta : Int) (prev : Option Nat) (tau : Nat), 1 ≤ tau → tau ≤ 255 →
     let dividend := theta * 250 + (if prev = some tau then s.ag.rateRem else 0)
     let rate := s.tb.rate + dividend.tdiv tau
     dividend = (dividend.tdiv tau) * tau + dividend.tmod tau ∧ (dividend.tmod tau).natAbs < tau ∧
     (-200000 ≤ rate → rate ≤ 200000 →
       s.updateRate theta prev tau = { s with tb := { s.tb with rate := rate }, ag := { s.ag with rateRem := dividend.tmod tau } }) ∧
     (200000 < rate → s.updateRate theta prev tau =
       { s with tb := { s.tb with rate := 200000 }, ag := { s.ag with rateRem := 0 }, panel := s.panel.raise .rateLimit }) ∧
     (rate < -200000 → s.updateRate theta prev tau =
       { s with tb := { s.tb with rate := -200000 }, ag := { s.ag with rateRem := 0 }, panel := s.panel.raise .rateLimit })))

/-- An expired entry becomes absent; when it was the source of a station with valid time that hears no other peer, the
station has none, its remainder is 0, and it is in holdover with the flag set. The best candidate has the lowest stratum, and
among equal strata the lowest number; which candidates are accepted, and the station's own stratum. The selection takes, keeps,
changes and drops a source by its table, each switch with the remainder 0 and the record empty, and takes a candidate's time
while its own is unset; it runs at every expiry, and on a MARK, whose sender, taken as source, is followed on that same MARK.
That the selection runs in LISTENING too is the model's inference (log 33). -/
def Obligations.SourcesAreChosenAndDropped : Prop :=
  ((∀ (s : State) (n : Nat) (p : Peer), s.settled → s.st.inService = true → s.st.peer n = some p →
     (p.markRun.plus (3 * s.st.cfg.markPeriod * 32768)).reached s.st.tb.run = true → s.st.ag.refState = .locked →
     exec (.peerExpiry n) s = .next (s.withSt { s.st with ag := { s.st.ag with peers := s.st.ag.peers.set n none } })) ∧
   (∀ (s : State) (n : Nat) (p : Peer), s.settled → s.st.inService = true → s.st.peer n = some p →
     (p.markRun.plus (3 * s.st.cfg.markPeriod * 32768)).reached s.st.tb.run = true → s.st.ag.refState ≠ .locked →
     s.st.tb.valid = true → s.st.ag.followed = some n → (∀ e ∈ s.st.ag.peers.set n none, e = none) →
     exec (.peerExpiry n) s = .next (s.withSt { s.st with
       ag := { s.st.ag with peers := s.st.ag.peers.set n none, followed := none, rateRem := 0, prevMark := none }
       panel := s.st.panel.raise .holdover }))) ∧
  (∀ s : Station,
     (s.best = none → ∀ n p, s.peer n = some p → isCandidate s.cfg.number n p = false) ∧
     (∀ n p, s.best = some (n, p) → s.peer n = some p ∧ isCandidate s.cfg.number n p = true ∧
       ∀ m o, s.peer m = some o → isCandidate s.cfg.number m o = true →
         p.stratum < o.stratum ∨ (p.stratum = o.stratum ∧ n ≤ m))) ∧
  ((∀ (s : Station) (n : Nat) (p : Peer),
     (isCandidate s.cfg.number n p = true ↔ p.stratum ≤ 6 ∧ p.followed ≠ some s.cfg.number ∧ n ≠ s.cfg.number) ∧
     (s.accepts n p = true ↔ isCandidate s.cfg.number n p = true ∧
       (s.tb.valid = false ∨ p.stratum < 6 ∨ (p.stratum = 6 ∧ n < s.cfg.number)))) ∧
   (∀ s : Station, s.stratum =
     if s.ag.refState = .locked then 0 else if s.tb.valid = false then 7 else match s.ag.followed with
       | none => 6
       | some f => match s.peer f with
         | none => 6
         | some p => min 6 (p.stratum + 1))) ∧
  (∀ s : Station,
     let switched := fun source : Option Nat => { s with
       ag := { s.ag with followed := source, rateRem := 0, prevMark := none }
       panel := if s.tb.valid = true ∧ source = none then s.panel.raise .holdover else s.panel }
     (s.ag.refState = .locked → s.select = (s, false)) ∧
     (s.ag.refState ≠ .locked →
       (s.ag.followed = none → s.tb.valid = true →
         (∀ n p, s.best = some (n, p) → s.accepts n p = true → s.select = (switched (some n), false)) ∧
         ((∀ n p, s.best = some (n, p) → s.accepts n p = false) → s.select = (s, false))) ∧
       (s.ag.followed = none → s.tb.valid = false →
         (s.best = none → s.select = (s, false)) ∧
         (∀ n p, s.best = some (n, p) →
           let t := s.select.1
           s.select.2 = true ∧ t.tb.valid = true ∧ t.tb.now = s.tb.now.plus p.theta ∧ t.panel.flag .timeStep = true ∧
             t.ag.followed = some n ∧ t.ag.rateRem = 0 ∧
             t.ag.prevMark = some { source := .station n, run := p.markRun, tau := none })) ∧
       (∀ f, s.ag.followed = some f →
         (∀ e, s.peer f = some e → s.accepts f e = true →
           (∀ n p, s.best = some (n, p) → p.stratum < e.stratum → s.select = (switched (some n), false)) ∧
           ((∀ n p, s.best = some (n, p) → e.stratum ≤ p.stratum) → s.select = (s, false))) ∧
         ((∀ e, s.peer f = some e → s.accepts f e = false) →
           (∀ n p, s.best = some (n, p) → s.accepts n p = true → s.select = (switched (some n), false)) ∧
           ((∀ n p, s.best = some (n, p) → s.accepts n p = false) → s.select = (switched none, false)))))) ∧
  ((∀ (s : State) (n : Nat) (p : Peer), s.settled → s.st.inService = true → s.st.peer n = some p →
     (p.markRun.plus (3 * s.st.cfg.markPeriod * 32768)).reached s.st.tb.run = true →
     exec (.peerExpiry n) s = .next (s.withSt
       (Station.select { s.st with ag := { s.st.ag with peers := s.st.ag.peers.set n none } }).1)) ∧
   (∀ (s : State) (src : Nat) (payload : List Byte) (cap : Capture) (theta : Int), s.settled → s.st.running = true →
     s.st.Hears src cap → src < 15 → payload.length = 9 → s.st.ag.refState ≠ .locked → s.st.tb.valid = true → s.st.ag.peers.length = 15 →
     bitOf (byteAt payload 7) 4 = true → byteAt payload 7 / 32 < 6 → byteAt payload 8 ≠ s.st.cfg.number → s.st.cfg.number < 15 →
     theta = TowerTime.diff ⟨word16 payload 0, word40 payload 2⟩ ⟨cap.day, cap.us⟩ → -2000000 < theta → theta < 2000000 →
     let taken : Station := { s.st.heard with
       tb := { s.st.tb with slew := max (-2000000) (min 2000000 (s.st.tb.slew + theta)) }
       ag := { s.st.ag with
         peers := s.st.ag.peers.set src (some (peerOf (markFieldsOf payload) cap))
         followed := some src, rateRem := 0
         prevMark := some { source := .station src, run := cap.run, tau := none } } }
     (s.st.ag.followed = none → (∀ o ∈ s.st.ag.peers.set src none, o = none) →
       exec (.markReceived src payload) s = .next (s.withSt taken)) ∧
     (∀ f e, s.st.ag.followed = some f → f ≠ src → s.st.peer f = some e → s.st.accepts f e = true →
       byteAt payload 7 / 32 < e.stratum → (∀ o ∈ (s.st.ag.peers.set src none).set f none, o = none) →
       exec (.markReceived src payload) s = .next (s.withSt taken))))

/-- A good message becomes pending and is discarded after 900 ms; a pulse 200 to 900 ms after it makes a valid minute, which
is the candidate, or, one minute after the candidate, locks the reference and gives its offset to the slew; while LOCKED a
minute one or two minutes after the last accepted one is accepted, and with a previous record of the reference 1 to 255 s old
the rate update runs, and any other is let go; 150 s after the last accepted minute the reference is SEARCHING again, and a
station that hears no peer is in holdover, with both flags. That a message is the six bytes of its fields is the model's
choice (log 39); that a lock lost in LISTENING runs the selection and may give holdover there is the model's inference (log
33). -/
def Obligations.ReferenceMinutesAreTaken : Prop :=
  ((∀ (s : State) (bytes : List Byte) (framed : Bool), s.settled → s.st.inService = true → s.st.ag.refState ≠ .absent →
     exec (.referenceMessage bytes framed) s = .next (s.withSt (
       if framed = true ∧ bytes.length = 6 ∧ byteAt bytes 0 = 180 ∧ (bytes.map (·.toNat)).sum % 256 = 0 ∧ word16 bytes 3 < 1440 then
         { s.st with ag := { s.st.ag with message := some ⟨word16 bytes 1, word16 bytes 3, s.st.tb.run⟩ } }
       else s.st))) ∧
   (∀ (s : State) (m : RefMessage), s.settled → s.st.ag.message = some m → 900 * 32768 ≤ m.ended.elapsed s.st.tb.run * 1000 →
     exec .referenceMessageExpiry s = .next (s.withSt { s.st with ag := { s.st.ag with message := none } }))) ∧
  ((∀ (s : State) (m : RefMessage), s.settled → s.st.inService = true → s.st.ag.refState = .searching → s.st.ag.message = some m →
     200 * 32768 ≤ m.ended.elapsed s.st.tb.run * 1000 → m.ended.elapsed s.st.tb.run * 1000 ≤ 900 * 32768 →
     (∀ c ∈ s.st.ag.candidate, (TowerTime.ofMinute m.day m.minute).diff c.time ≠ 60000000) →
     exec .referencePulse s = .next (s.withSt { s.st with ag := { s.st.ag with
       message := none, candidate := some ⟨m.day, m.minute, s.st.tb.run⟩ } })) ∧
   (∀ (s : State), s.settled → s.st.inService = true → s.st.ag.refState ≠ .absent →
     (∀ m ∈ s.st.ag.message, m.ended.elapsed s.st.tb.run * 1000 < 200 * 32768 ∨ 900 * 32768 < m.ended.elapsed s.st.tb.run * 1000) →
     exec .referencePulse s = .next (s.withSt { s.st with ag := { s.st.ag with message := none } }))) ∧
  (∀ (s : State) (m : RefMessage) (c : RefMinute) (theta : Int), s.settled → s.st.running = true → s.st.tb.valid = true →
     s.st.ag.refState = .searching → s.st.ag.message = some m → s.st.ag.candidate = some c →
     200 * 32768 ≤ m.ended.elapsed s.st.tb.run * 1000 → m.ended.elapsed s.st.tb.run * 1000 ≤ 900 * 32768 →
     (TowerTime.ofMinute m.day m.minute).diff (TowerTime.ofMinute c.day c.minute) = 60000000 →
     1966080 ≤ c.run.elapsed s.st.tb.run + 327 → c.run.elapsed s.st.tb.run ≤ 1966080 + 327 →
     theta = (TowerTime.ofMinute m.day m.minute).diff s.st.tb.now → -2000000 < theta → theta < 2000000 →
     exec .referencePulse s = .next (s.withSt { s.st with
       tb := { s.st.tb with slew := max (-2000000) (min 2000000 (s.st.tb.slew + theta)) }
       ag := { s.st.ag with
         message := none, candidate := none, refState := .locked, followed := none, rateRem := 0
         lastMinute := some ⟨m.day, m.minute, s.st.tb.run⟩
         prevMark := some { source := .reference, run := s.st.tb.run, tau := none } } })) ∧
  (∀ (s : State) (m : RefMessage) (l : RefMinute) (p : PrevMark), s.settled → s.st.running = true → s.st.tb.valid = true →
     s.st.ag.refState = .locked → s.st.ag.message = some m → s.st.ag.lastMinute = some l →
     200 * 32768 ≤ m.ended.elapsed s.st.tb.run * 1000 → m.ended.elapsed s.st.tb.run * 1000 ≤ 900 * 32768 →
     let apart := (TowerTime.ofMinute m.day m.minute).diff (TowerTime.ofMinute l.day l.minute)
     let cycles := l.run.elapsed s.st.tb.run
     let follows := (apart = 60000000 ∧ 1966080 ≤ cycles + 327 ∧ cycles ≤ 1966080 + 327) ∨
       (apart = 120000000 ∧ 2 * 1966080 ≤ cycles + 327 ∧ cycles ≤ 2 * 1966080 + 327)
     let theta := (TowerTime.ofMinute m.day m.minute).diff s.st.tb.now
     let tau := (p.run.elapsed s.st.tb.run + 16384) / 32768
     let dividend := theta * 250 + (if p.tau = some tau then s.st.ag.rateRem else 0)
     let rate := s.st.tb.rate + dividend.tdiv tau
     (¬follows → exec .referencePulse s = .next (s.withSt { s.st with ag := { s.st.ag with message := none } })) ∧
     (follows → -2000000 < theta → theta < 2000000 → s.st.ag.prevMark = some p → p.source = .reference → 1 ≤ tau → tau ≤ 255 →
       -200000 ≤ rate → rate ≤ 200000 →
       exec .referencePulse s = .next (s.withSt { s.st with
         tb := { s.st.tb with slew := max (-2000000) (min 2000000 (s.st.tb.slew + theta)), rate := rate }
         ag := { s.st.ag with
           message := none, lastMinute := some ⟨m.day, m.minute, s.st.tb.run⟩, rateRem := dividend.tmod tau
           prevMark := some { source := .reference, run := s.st.tb.run, tau := some tau } } }))) ∧
  (∀ (s : State) (m : RefMinute), s.settled → s.st.inService = true → s.st.tb.valid = true → s.st.ag.refState = .locked →
     s.st.ag.lastMinute = some m → (m.run.plus (150 * 32768)).reached s.st.tb.run = true → (∀ p ∈ s.st.ag.peers, p = none) →
     exec .referenceLost s = .next (s.withSt { s.st with
       ag := { s.st.ag with
         refState := .searching, candidate := none, lastMinute := none, followed := none, rateRem := 0, prevMark := none }
       panel := (s.st.panel.raise .refLost).raise .holdover }))

/-- Microseconds out of range and a LOCKED reference are refused; otherwise, where no peer is heard, tower time is stepped by
the given time less the capture of the start bit, keeping fraction, rate and spread, with the slew 0, the time valid and the
flag set; a tower second raised and not yet taken is given up, its moments being looked for anew (log 10). A station on which
nothing plays is answered DONE, its mark moment armed anew, its scan mark set and its scene looked up. A step removes every
unlaunched entry and waiting note and aborts the tunes and chimes in CUED and PLAYING; a toll's stroke not yet launched is fed
again, its target one interval after the new time; and an hour boundary that a forward step passes, 300 s or less back, is
made up. -/
def Obligations.SetTimeSteps : Prop :=
  (∀ (s : State) (a : Ask) (cap : Capture) (args : List Byte), s.Asked a cap → 7 ≤ args.length → 86400000000 ≤ word40 args 2 →
    exec (.setTime a args) s = .next (s.withSt (s.st.heard.answered a 3 .range []))) ∧
  (∀ (s : State) (a : Ask) (cap : Capture) (args : List Byte), s.Asked a cap → 7 ≤ args.length → word40 args 2 < 86400000000 →
    s.st.ag.refState = .locked →
    exec (.setTime a args) s = .next (s.withSt (s.st.heard.answered a 3 .state []))) ∧
  (∀ (s : State) (a : Ask) (cap : Capture) (args : List Byte), s.Asked a cap → 7 ≤ args.length → word40 args 2 < 86400000000 →
    s.st.ag.refState ≠ .locked → (∀ p ∈ s.st.ag.peers, p = none) →
    ∃ t : Station, exec (.setTime a args) s = .next (s.withSt t) ∧
      t.tb.now = s.st.tb.now.plus (TowerTime.diff ⟨word16 args 0, word40 args 2⟩ ⟨cap.day, cap.us⟩) ∧
      t.tb = { s.st.tb with
        day := t.tb.day, us := t.tb.us, offset := t.tb.offset, slew := 0, valid := true, towerSecondDue := none } ∧
      t.panel.flag .timeStep = true ∧ t.ag.rateRem = 0 ∧ t.ag.prevMark = none ∧ t.ag.stepped = true ∧
      t.cfg = s.st.cfg ∧ t.lines = s.st.lines ∧ t.seq = s.st.seq) ∧
  (∀ (s : State) (a : Ask) (cap : Capture) (args : List Byte), s.Asked a cap → 7 ≤ args.length → word40 args 2 < 86400000000 →
    s.st.ag.refState ≠ .locked → (∀ p ∈ s.st.ag.peers, p = none) →
    let delta := TowerTime.diff ⟨word16 args 0, word40 args 2⟩ ⟨cap.day, cap.us⟩
    let now := s.st.tb.now.plus delta
    ((∀ r ∈ s.st.pf.table, r = none) → (∀ c ∈ s.st.channels, c.queue = [] ∧ c.waiting = none ∧ c.holder = .none) →
      s.st.cfg.hourBell = none → s.st.unfitted → s.st.pg.calendar = List.replicate 96 none → s.st.pg.scanMark = none →
      s.st.ag.followed = none →
      let stepped := (s.st.panel.raise .timeStep).bump .steps
      exec (.setTime a args) s = .next (s.withSt (Station.answered { s.st.heard with
        tb := { s.st.tb with day := now.day, us := now.us, slew := 0, valid := true, towerSecondDue := none }
        ag := { s.st.ag with
          rateRem := 0, prevMark := none, stepped := true, steppedInAttempt := true
          armed := match s.st.cfg.markIn now.day (now.us / 1000000) with
            | none => none
            | some m => if 0 < m.diff now then some (.tower m) else none }
        pg := { s.st.pg with scanMark := some (now.day, now.us / 60000000) }
        sup := if s.st.sup.override then s.st.sup else { s.st.sup with scene := 0 }
        panel := if s.st.tb.valid then stepped else stepped.raise .holdover } a 3 .done []))) ∧
    ((∀ r ∈ s.st.pf.table, ∀ x ∈ r, x.key.cls = .tune ∨ x.key.cls = .quarter) → s.st.pf.table.length = 6 →
      s.st.channels.length = 8 → s.st.cfg.hourBell = none →
      ∃ t : Station, exec (.setTime a args) s = .next (s.withSt t) ∧ (∀ c ∈ t.channels, c.queue = [] ∧ c.waiting = none) ∧
        (∀ (n : Nat) (c : Channel), s.st.channels[n]? = some c → ∃ d : Channel, t.channels[n]? = some d ∧ d.state = c.state ∧ d.pulseEnd = c.pulseEnd ∧
          d.lastLaunch = c.lastLaunch) ∧
        ∀ slot x, s.st.record slot = some x →
          (x.state = .cued ∨ x.state = .playing → t.record slot = none ∧ ∃ k ∈ t.pf.recent, k.key = x.key ∧ k.outcome = .aborted) ∧
          (x.state = .ending → ∃ y, t.record slot = some y ∧ y.key = x.key ∧ y.state = .ending)) ∧
    (∀ slot r, slot < 6 → s.st.pf.table = (List.replicate 6 none).set slot (some r) → r.key.cls = .toll → r.hasPart = true →
      2000 ≤ r.beat → r.beat ≤ 60000 → s.st.cfg.hourBell = none → (∀ k ∈ s.st.cfg.channels, k.lead ≤ 400) → s.st.tb.inRange →
      let next := now.plus ((r.beat * 1000 : Nat) : Int)
      (r.state = .playing → r.entriesOut = 0 → (∀ c ∈ s.st.channels, c.queue = [] ∧ c.waiting = none) →
        ∃ t : Station, exec (.setTime a args) s = .next (s.withSt t) ∧ t.record slot = some { r with nextTarget := next }) ∧
      (r.state = .playing ∨ r.state = .ending → r.entriesOut = 1 → ∀ ch c p, s.st.channels[ch]? = some c → ch < 8 →
        c.holder = .perf slot p → c.queue.length = 1 → c.waiting = none →
        (∀ d ∈ s.st.channels.set ch { c with queue := [] }, d.queue = [] ∧ d.waiting = none) →
        ∃ t : Station, exec (.setTime a args) s = .next (s.withSt t) ∧ (∀ d ∈ t.channels, d.queue = []) ∧
          t.record slot = some { r with state := .playing, entriesOut := 0, cursor := r.cursor - 1, nextTarget := next })) ∧
    (∀ bell, s.st.cfg.hourBell = some bell → s.st.cfg.isOwn bell = true → s.st.pf.silenced = false →
      s.st.pf.table = List.replicate 6 none → (∀ t ∈ s.st.pf.lastHour, 3000 * 32768 ≤ t.elapsed s.st.tb.run) →
      let civil := now.civil s.st.tb.offset
      let hour := civil.us / 3600000000
      let tower := (TowerTime.mk civil.day (hour * 3600000000)).plus (-((s.st.tb.offset * 60000000 : Nat) : Int))
      ((civil.us - hour * 3600000000 : Nat) : Int) < delta →
      civil.us - hour * 3600000000 ≤ 300000000 → s.st.pg.silentAt civil.day (hour * 60) = false →
      (∀ k ∈ s.st.pf.recent, k.key ≠ ⟨.hour, 0, 0, tower.day, tower.us / 60000000⟩ ∧
        k.key.isHourChime tower.day (tower.us / 60000000) = false) →
      ∃ (t : Station) (r : Record), exec (.setTime a args) s = .next (s.withSt t) ∧ t.record 0 = some r ∧
        r.key = ⟨.hour, 0, 0, tower.day, tower.us / 60000000⟩ ∧ r.state = .waiting ∧ r.length = (hour + 11) % 12 + 1 ∧
        r.deadline1 = some (s.st.tb.run.plus (msCycles (s.st.cfg.cueLead + 1000))) ∧
        r.deadline2 = some (s.st.tb.run.plus (60 * 32768))))

/-! ## The performance unit -/

/-- A valid cue of a new key with a slot free, its start more than 1,500 ms ahead, makes a CUED record with its tempo and
length clamped; a tune whose start is nearer plays at once, or is ENDING at once without a part. One of a recent key counts as
a duplicate; one without valid time, while silenced, of class HOUR or of a key out of range is counted as ignored, a minute of
day above 1,439 among them by the model's choice (log 22), and a beat of 0 is clamped as any other, its choice too (log 56).
With the table full the flag is set. One of a key in the table counts as a duplicate, unless the record is local and its CUE
still queued, which is then withdrawn, or went undelivered: the record adopts it, keeping its place with the same start and
tempo (a toll at or past the count it adopts ends), and otherwise beginning afresh in the state of a record made then, CUED
while its start is far, which is the model's inference (log 30). The chime before an hour whose first stroke has not launched
makes it wait again, the bell it holds released, until its second deadline. -/
def Obligations.HeardCueMakesARecord : Prop :=
  ∀ (s : State) (src : Nat) (payload : List Byte) (cap : Capture), s.settled → s.st.running = true → s.st.Hears src cap →
    payload.length = 12 →
    let k := keyAt payload 0
    let start := (TowerTime.ofMinute k.day k.minute).plus ((word16 payload 6 * 1000 : Nat) : Int)
    (s.st.tb.valid = true → s.st.pf.silenced = false → k.cls = .tune ∨ k.cls = .toll → k.valid = true → s.st.pf.slotOf k = none →
      s.st.pf.isRecent k = false → ∀ slot, s.st.pf.freeSlot = some slot →
      s.st.tb.now.diff (start.plus (-1500000)) < 0 →
      ∃ r : Record, exec (.cueReceived src payload) s = .next (s.withSt (s.st.heard.setRecord slot (some r))) ∧
        r.key = k ∧ r.state = .cued ∧ r.start = start ∧ r.origin = .heard ∧ r.frameState = .none ∧ r.cursor = 0 ∧ r.entriesOut = 0 ∧
        r.marks = List.replicate 8 .none ∧
        (k.cls = .tune → r.beat = max 150 (min 2000 (word16 payload 8)) ∧ r.length = max 1 (min 4096 (word16 payload 10)) ∧
          r.ends = some (start.plus ((r.length * r.beat * 1000 : Nat) : Int))) ∧
        (k.cls = .toll → r.beat = max 1000 (min 60000 (word16 payload 8)) ∧ r.length = word16 payload 10 ∧
          r.hasPart = s.st.cfg.isOwn k.number)) ∧
    (s.st.tb.valid = true → s.st.pf.silenced = false → k.cls ≠ .hour → k.valid = true → s.st.pf.slotOf k = none →
      s.st.pf.isRecent k = true →
      exec (.cueReceived src payload) s = .next (s.withSt (s.st.heard.bump .duplicateCues))) ∧
    (s.st.tb.valid = false ∨ s.st.pf.silenced = true ∨ k.cls = .hour ∨ k.valid = false →
      exec (.cueReceived src payload) s = .next (s.withSt (s.st.heard.bump .ignoredCues))) ∧
    (s.st.tb.valid = true → s.st.pf.silenced = false → k.cls ≠ .hour → k.valid = true →
      let beat := if k.cls = .toll then max 1000 (min 60000 (word16 payload 8)) else max 150 (min 2000 (word16 payload 8))
      let length := if k.cls = .toll then word16 payload 10 else max 1 (min 4096 (word16 payload 10))
      (s.st.pf.slotOf k = none → s.st.pf.isRecent k = false → s.st.pf.freeSlot = none →
        exec (.cueReceived src payload) s = .next (s.withSt (s.st.heard.raise .tableFull))) ∧
      (∀ slot r, s.st.pf.slotOf k = some slot → s.st.record slot = some r →
        (r.origin = .heard ∨ r.frameState = .heard ∨ r.frameState = .none →
          exec (.cueReceived src payload) s = .next (s.withSt (s.st.heard.bump .duplicateCues))) ∧
        (r.origin = .localCue →
          let kept : Record := { r with
            length := length, frameState := .none
            ends := if k.cls = .toll ∧ (r.hasPart = true ∨ length = 0) then none
              else some (start.plus ((length * beat * 1000 : Nat) : Int)) }
          let adopted : Record := if r.start = start ∧ r.beat = beat then
              { kept with state := if k.cls = .toll ∧ r.hasPart = true ∧ r.state = .playing ∧ 0 < length ∧ length ≤ r.cursor then .ending
                else r.state }
            else { kept with
              start := start, beat := beat, state := .cued, cursor := 0, nextTarget := start, entriesOut := 0
              marks := List.replicate 8 .none }
          (r.start = start ∧ r.beat = beat) ∨
            ((∀ m ∈ r.marks, m.holds = false) ∧ s.st.tb.now.diff (start.plus (-1500000)) < 0) →
          (r.frameState = .undelivered →
            exec (.cueReceived src payload) s = .next (s.withSt (s.st.heard.setRecord slot (some adopted)))) ∧
          (r.frameState = .queued → ∀ q, s.st.bus.queue = [q] → q.frame.isCueOf k = true →
            exec (.cueReceived src payload) s = .next (s.withSt (Station.setRecord { s.st.heard with
              bus := { s.st.heard.bus with queue := [] } } slot (some adopted)))))) ∧
      (k.cls = .tune → s.st.pf.slotOf k = none → s.st.pf.isRecent k = false → ∀ slot, s.st.pf.freeSlot = some slot →
        0 ≤ s.st.tb.now.diff (start.plus (-1500000)) →
        ((∀ t, s.st.pg.tune k.number = some t → t.state = .opened ∨ t.own = 0) →
          ∃ r : Record, exec (.cueReceived src payload) s = .next (s.withSt (s.st.heard.setRecord slot (some r))) ∧
            r.key = k ∧ r.state = .ending ∧ r.hasPart = false ∧ r.start = start ∧
            r.ends = some (start.plus ((length * beat * 1000 : Nat) : Int))) ∧
        (∀ t n ch, s.st.pg.tune k.number = some t → t.state ≠ .opened → 0 < t.own → s.st.pg.noteOf k.number 0 = some n →
          s.st.cfg.channelOf n.bell = some ch →
          1500000 < ((start.plus ((noteDelay n.offset beat : Nat) : Int)).plus
            (-(((s.st.channelCfg ch).lead * 1000 : Nat) : Int))).diff s.st.tb.now →
          ∃ r : Record, exec (.cueReceived src payload) s = .next (s.withSt (s.st.heard.setRecord slot (some r))) ∧
            r.key = k ∧ r.state = .playing ∧ r.hasPart = true ∧ r.start = start ∧ r.cursor = 0 ∧ r.entriesOut = 0)) ∧
      (k.cls = .quarter → k.quarter = 4 → s.st.pf.slotOf k = none → s.st.pf.isRecent k = false → ∀ slot h d,
        s.st.pf.freeSlot = some slot → s.st.tb.now.diff (start.plus (-1500000)) < 0 → s.st.record 0 = some h →
        k.day = h.key.day → k.minute = h.key.minute → h.state ≠ .waiting → h.firstLaunched = false → h.deadline2 = some d →
        d.reached s.st.tb.run = false → ∀ ch c p, ch < 8 → h.marks = (List.replicate 8 BellMark.none).set ch .held →
        s.st.channels[ch]? = some c → c.holder = .perf 0 p → c.waiting = none →
        ∃ r : Record, exec (.cueReceived src payload) s = .next (s.withSt (((s.st.heard.setRecord slot (some r)).setChannel ch
            { c with holder := .none, openPhrase := false, isProtected := false, queue := [] }).setRecord 0 (some { h with
              state := .waiting, cursor := 0, entriesOut := 0, marks := List.replicate 8 .none }))) ∧
          r.key = k ∧ r.state = .cued ∧ r.start = start))

/-- A HALT of a key neither in the table nor in the list, be its number or minute in range or not (the model's choice, log
22), enters it as HALTED-BEFORE-CUE, the oldest of 8 leaving first, and
the last chime an hour waits for so entered begins its strike 2 s on; a key in the list changes nothing; a quarter its class
does not allow discards the HALT. A record of the key in the table, the hour's in slot 0 among them, is aborted: its CUE
still queued is withdrawn, the bell it holds released, its key ABORTED in the list. A HALT_KEY out of range is refused; one
in range is applied and the HALT goes to the tower. -/
def Obligations.HaltsOfUnknownKeysAreKept : Prop :=
  (∀ (s : State) (src : Nat) (payload : List Byte) (cap : Capture), s.settled → s.st.running = true → s.st.Hears src cap →
     payload.length = 6 → byteAt payload 0 % 4 = 0 →
     let k := keyAt payload 0
     let listed := fun o : KeyOutcome => (if s.st.pf.recent.length < 8 then s.st.pf.recent else s.st.pf.recent.drop 1) ++
       [⟨k, o, s.st.tb.run⟩]
     (k.quarterValid = true → s.st.pf.slotOf k = none → s.st.pf.isRecent k = false → s.st.record 0 = none →
       exec (.haltKeyReceived src payload) s = .next (s.withSt { s.st.heard with pf := { s.st.pf with
         recent := listed .haltedBeforeCue } })) ∧
     (k.quarterValid = true → s.st.pf.slotOf k = none → s.st.pf.isRecent k = false → s.st.tb.inRange →
       (∀ k ∈ s.st.cfg.channels, k.lead ≤ 400) → ∀ h, s.st.record 0 = some h → h.key.cls = .hour → h.state = .waiting →
       k.cls = .quarter → k.quarter = 4 → k.day = h.key.day → k.minute = h.key.minute →
       s.st.pf.chimeStands h.key.day h.key.minute = false →
       exec (.haltKeyReceived src payload) s = .next (s.withSt { s.st.heard with pf := { s.st.pf with
         recent := listed .haltedBeforeCue
         table := s.st.pf.table.set 0 (some { h with
           state := .playing, start := s.st.tb.now.plus 2000000, nextTarget := s.st.tb.now.plus 2000000 }) } })) ∧
     (k.quarterValid = true → s.st.pf.slotOf k = none → s.st.pf.isRecent k = true →
       exec (.haltKeyReceived src payload) s = .next (s.withSt s.st.heard)) ∧
     (k.quarterValid = false → exec (.haltKeyReceived src payload) s = .next (s.withSt s.st.heard)) ∧
     (k.quarterValid = true → ∀ slot r, s.st.pf.slotOf k = some slot → s.st.record slot = some r →
       slot = 0 ∨ s.st.record 0 = none →
       let halted : Performances := { s.st.pf with table := s.st.pf.table.set slot none, recent := listed .aborted }
       (r.frameState ≠ .queued → (∀ m ∈ r.marks, m.holds = false) →
         exec (.haltKeyReceived src payload) s = .next (s.withSt { s.st.heard with pf := halted })) ∧
       (r.frameState = .queued → (∀ m ∈ r.marks, m.holds = false) → ∀ q, s.st.bus.queue = [q] → q.frame.isCueOf k = true →
         exec (.haltKeyReceived src payload) s = .next (s.withSt { s.st.heard with
           pf := halted, bus := { s.st.heard.bus with queue := [] } })) ∧
       (r.frameState ≠ .queued → ∀ ch c p, ch < 8 → r.marks = (List.replicate 8 BellMark.none).set ch .held →
         s.st.channels[ch]? = some c → c.holder = .perf slot p → c.waiting = none →
         exec (.haltKeyReceived src payload) s = .next (s.withSt ({ s.st.heard with pf := halted }.setChannel ch
           { c with holder := .none, openPhrase := false, isProtected := false, queue := [] }))))) ∧
  (∀ (s : State) (a : Ask) (cap : Capture) (args : List Byte), s.Asked a cap → 6 ≤ args.length →
     let k := keyAt args 0
     (k.valid = false → exec (.haltKey a args) s = .next (s.withSt (s.st.heard.answered a 13 .range []))) ∧
     (k.valid = true → s.st.pf.slotOf k = none → s.st.pf.isRecent k = false → s.st.record 0 = none → s.st.pf.recent.length < 8 →
       exec (.haltKey a args) s = .next (s.withSt ((Station.queued { s.st.heard with pf := { s.st.pf with
         recent := s.st.pf.recent ++ [⟨k, .haltedBeforeCue, s.st.tb.run⟩] } } (.halt (.key k))).answered a 13 .done []))))

/-- After a SILENCE no record stands and no strike queue, waiting note or holder is left on any channel, channel states and
pulses go on, and the silenced flag is set; a RESUME clears the flag and changes nothing else; the requests send their HALT
to the tower and are answered. -/
def Obligations.SilenceAndResume : Prop :=
  ((∀ (s : State) (src : Nat) (payload : List Byte) (cap : Capture), s.settled → s.st.running = true → s.st.Hears src cap →
     payload.length = 6 → byteAt payload 0 % 4 = 1 →
     ∃ t : Station, exec (.haltSilenceReceived src payload) s = .next (s.withSt t) ∧ t.pf.silenced = true ∧
       (∀ slot, slot < 6 → t.record slot = none) ∧
       (∀ c ∈ t.channels, c.queue = [] ∧ c.waiting = none ∧ c.holder = .none ∧ c.isProtected = false ∧ c.openPhrase = false) ∧
       t.channels.map (fun c => (c.state, c.lastLaunch, c.pulseEnd)) = s.st.channels.map (fun c => (c.state, c.lastLaunch, c.pulseEnd)) ∧
       t.tb = s.st.tb ∧ t.ag = s.st.ag ∧ t.pg = s.st.pg ∧ t.dials = s.st.dials ∧ t.sup = s.st.sup ∧ t.panel = s.st.panel ∧
       t.cfg = s.st.cfg ∧ t.seq = s.st.seq ∧ t.lines = s.st.lines) ∧
   (∀ (s : State) (a : Ask) (cap : Capture) (args : List Byte), s.Asked a cap → (∀ r ∈ s.st.pf.table, r = none) →
     exec (.silence a args) s = .next (s.withSt ((Station.queued { s.st.heard with
       channels := s.st.channels.map Channel.clear, pf := { s.st.pf with silenced := true } } (.halt .silence)).answered a 14 .done [])))) ∧
  ((∀ (s : State) (src : Nat) (payload : List Byte) (cap : Capture), s.settled → s.st.running = true → s.st.Hears src cap →
     payload.length = 6 → byteAt payload 0 % 4 = 2 →
     exec (.haltResumeReceived src payload) s = .next (s.withSt { s.st.heard with pf := { s.st.pf with silenced := false } })) ∧
   (∀ (s : State) (a : Ask) (cap : Capture) (args : List Byte), s.Asked a cap →
     exec (.resume a args) s = .next (s.withSt ((Station.queued { s.st.heard with pf := { s.st.pf with silenced := false } }
       (.halt .resume)).answered a 15 .done []))))

/-- 1,500 ms before its start a CUED record without a part enters ENDING, and one with a part PLAYING, feeding nothing while
its first note lies beyond the feed window. The note at the cursor, in the window and its bell free, becomes the one entry of
its channel and the record moves on, to ENDING after its last note. A note's offset from the start is its sixteenths times
the beat, a half microsecond rounded up. A toll feeds its next stroke alike, counted when it is fed; a last stroke whose
launch moment has passed is skipped and ends the feeding. NOTE_FEED considers one note (log 21). -/
def Obligations.PerformancesPlay : Prop :=
  (∀ (s : State) (slot : Nat) (r : Record), s.settled → s.st.running = true → slot < s.st.pf.table.length → s.st.record slot = some r →
     r.state = .cued → 0 ≤ s.st.tb.now.diff (r.start.plus (-1500000)) →
     (r.hasPart = false → exec (.performancePlay slot) s = .next (s.withSt (s.st.setRecord slot (some { r with state := .ending })))) ∧
     (r.hasPart = true → r.key.cls = .tune ∨ r.key.cls = .quarter → ∀ n ch, s.st.pg.noteOf r.key.number r.cursor = some n →
       s.st.cfg.channelOf n.bell = some ch →
       1500000 < ((r.start.plus ((noteDelay n.offset r.beat : Nat) : Int)).plus
         (-(((s.st.channelCfg ch).lead * 1000 : Nat) : Int))).diff s.st.tb.now →
       exec (.performancePlay slot) s = .next (s.withSt (s.st.setRecord slot (some { r with state := .playing }))))) ∧
  (∀ (s : State) (slot ch : Nat) (r : Record) (n : Note) (c : Channel), s.settled → s.st.running = true →
     slot < s.st.pf.table.length → s.st.record slot = some r → r.state = .playing → r.hasPart = true →
     r.key.cls = .tune ∨ r.key.cls = .quarter → s.st.pg.noteOf r.key.number r.cursor = some n → s.st.cfg.channelOf n.bell = some ch →
     s.st.channels[ch]? = some c → c.state = .ready → c.holder = .none → c.queue = [] → r.mark ch = .none →
     let target := r.start.plus ((noteDelay n.offset r.beat : Nat) : Int)
     let ahead := (target.plus (-(((s.st.channelCfg ch).lead * 1000 : Nat) : Int))).diff s.st.tb.now
     0 ≤ ahead → ahead ≤ 1500000 →
     exec (.noteFeed slot) s = .next (s.withSt ((s.st.setChannel ch { c with
         holder := .perf slot r.key.cls.priority, isProtected := false
         queue := [{ target := target, owner := .slot slot, velocity := n.velocity, phrase := n.phrase, late := r.key.cls.late }] }).setRecord
       slot (some { r with
         marks := r.marks.set ch .held, entriesOut := r.entriesOut + 1, cursor := r.cursor + 1
         state := if (s.st.pg.noteOf r.key.number (r.cursor + 1)).isSome then .playing else .ending })))) ∧
  (∀ (s : State) (slot ch : Nat) (r : Record) (c : Channel), s.settled → s.st.running = true →
     slot < s.st.pf.table.length → s.st.record slot = some r → r.state = .playing → r.hasPart = true → r.key.cls = .toll →
     r.entriesOut = 0 → s.st.cfg.channelOf r.key.number = some ch → s.st.channels[ch]? = some c → c.state = .ready →
     c.holder = .none → c.queue = [] → r.mark ch = .none →
     let ahead := (r.nextTarget.plus (-(((s.st.channelCfg ch).lead * 1000 : Nat) : Int))).diff s.st.tb.now
     (0 ≤ ahead → ahead ≤ 1500000 →
       exec (.noteFeed slot) s = .next (s.withSt ((s.st.setChannel ch { c with
           holder := .perf slot 1, isProtected := false
           queue := [{ target := r.nextTarget, owner := .slot slot, velocity := s.st.cfg.velocity, phrase := .none, late := .toll }]
           }).setRecord slot (some { r with
             marks := r.marks.set ch .held, entriesOut := 1, cursor := r.cursor + 1
             state := if 0 < r.length ∧ r.length ≤ r.cursor + 1 then .ending else .playing })))) ∧
     (ahead < 0 → 0 < r.length → r.length ≤ r.cursor + 1 →
       exec (.noteFeed slot) s = .next (s.withSt (s.st.setRecord slot (some { r with
         cursor := r.cursor + 1, state := .ending, nextTarget := r.nextTarget.plus ((r.beat * 1000 : Nat) : Int) }))))) ∧
  ((∀ offset16 beat : Nat, 2 * noteDelay offset16 beat = offset16 * beat * 125 + (offset16 * beat * 125) % 2) ∧
   noteDelay 37 600 = 1387500 ∧ noteDelay 3 333 = 62438 ∧ noteDelay 2400 600 = 90000000)

/-- Every row of the table of feed requests: the reply, the channel after it, and what the holder and the claimant are told.
-/
def Obligations.FeedFollowsTheTable : Prop :=
  ∀ (c : Channel) (ch slot prio : Nat) (e : StrikeEntry) (regain : Bool),
    let free := !(c.openPhrase || c.queue.any fun x => decide (x.phrase ≠ .none)) && !c.isProtected
    let below : Bool := match c.holder with
      | .none => false
      | .panel => true
      | .perf h p => decide (h ≠ slot) && decide (prio < p)
    let lower := below = true
    let told := match c.holder with
      | .perf h _ => [⟨h, ch, .displaced c.queue.length⟩]
      | _ => []
    (c.state = .faulted ∨ c.state = .unused → c.feed ch e slot prio regain = (c, .faulted, [])) ∧
    (c.state ≠ .faulted → c.state ≠ .unused →
      (c.holder = .none → c.feed ch e slot prio regain =
        ({ c with holder := .perf slot prio, isProtected := regain, queue := insertEntry e c.queue }, .taken, [])) ∧
      (∀ p, c.holder = .perf slot p → c.queue.length < 12 →
        c.feed ch e slot prio regain = ({ c with queue := insertEntry e c.queue }, .queued, [])) ∧
      (∀ p, c.holder = .perf slot p → 12 ≤ c.queue.length → c.feed ch e slot prio regain = (c, .full, [])) ∧
      (∀ h p, c.holder = .perf h p → h ≠ slot → p ≤ prio → c.feed ch e slot prio regain = (c, .yielded, [])) ∧
      (lower → c.waiting = none → free = true → c.feed ch e slot prio regain =
        ({ c with holder := .perf slot prio, openPhrase := false, isProtected := false, queue := [e] }, .displaced, told)) ∧
      (lower → c.waiting = none → free = false → c.feed ch e slot prio regain = ({ c with waiting := some ⟨e, slot, prio⟩ }, .waiting, [])) ∧
      (lower → ∀ w, c.waiting = some w → w.slot = slot → c.feed ch e slot prio regain = (c, .slotOccupied, [])) ∧
      (lower → ∀ w, c.waiting = some w → w.slot ≠ slot → prio < w.priority → c.feed ch e slot prio regain =
        ({ c with waiting := some ⟨e, slot, prio⟩ }, .waiting, [⟨w.slot, ch, .yieldedNote⟩])) ∧
      (lower → ∀ w, c.waiting = some w → w.slot ≠ slot → w.priority ≤ prio → c.feed ch e slot prio regain = (c, .yielded, [])))

/-- An ENDING tune or chime with no entries out, at its end, leaves the table, its key ENDED in the list; so do a toll and
the hour once their last stroke is out, and the bell that a record holds is then free. The last chime that an hour waits for
begins its strike 2 s on. The oldest key leaves the list 600 s after it was added. At the second deadline, or at the first
with no chime standing or recent, the hour leaves WAITING, and its first stroke, its launch moment this very moment, is fed
to the hour bell, free and in service. -/
def Obligations.RecordsEndAndHoursBegin : Prop :=
  (∀ (s : State) (slot : Nat) (r : Record), s.settled → s.st.running = true → slot < s.st.pf.table.length →
     s.st.record slot = some r → r.state = .ending → r.entriesOut = 0 →
     ((r.key.cls = .tune ∨ r.key.cls = .quarter) ∧ ∃ e ∈ r.ends, 0 ≤ s.st.tb.now.diff e) ∨
       (r.key.cls = .toll ∧ r.hasPart = true) ∨ r.key.cls = .hour →
     let after : Performances := { s.st.pf with
       table := s.st.pf.table.set slot none
       recent := (if s.st.pf.recent.length < 8 then s.st.pf.recent else s.st.pf.recent.drop 1) ++ [⟨r.key, .ended, s.st.tb.run⟩] }
     (slot = 0 ∨ s.st.record 0 = none → (∀ m ∈ r.marks, m.holds = false) →
       exec (.performanceEnd slot) s = .next (s.withSt { s.st with pf := after })) ∧
     (slot = 0 ∨ s.st.record 0 = none → ∀ ch c p, ch < 8 → r.marks = (List.replicate 8 BellMark.none).set ch .held →
       s.st.channels[ch]? = some c → c.holder = .perf slot p → c.waiting = none →
       exec (.performanceEnd slot) s = .next (s.withSt ({ s.st with pf := after }.setChannel ch
         { c with holder := .none, openPhrase := false, isProtected := false, queue := [] }))) ∧
     (0 < slot → (∀ m ∈ r.marks, m.holds = false) → s.st.tb.inRange → (∀ k ∈ s.st.cfg.channels, k.lead ≤ 400) →
       ∀ h, s.st.record 0 = some h → h.key.cls = .hour → h.state = .waiting → r.key.isHourChime h.key.day h.key.minute = true →
       after.chimeStands h.key.day h.key.minute = false →
       exec (.performanceEnd slot) s = .next (s.withSt { s.st with pf := { after with
         table := after.table.set 0 (some { h with
           state := .playing, start := s.st.tb.now.plus 2000000, nextTarget := s.st.tb.now.plus 2000000 }) } }))) ∧
  (∀ (s : State) (k : RecentKey) (rest : List RecentKey), s.settled → s.st.running = true → s.st.pf.recent = k :: rest →
     (k.run.plus (600 * 32768)).reached s.st.tb.run = true →
     exec .recentKeyExpiry s = .next (s.withSt { s.st with pf := { s.st.pf with recent := rest } })) ∧
  (∀ (s : State) (r : Record) (d : RunTime) (bell ch : Nat) (c : Channel), s.settled → s.st.running = true → s.st.tb.inRange →
     0 < s.st.pf.table.length →
     s.st.record 0 = some r → r.state = .waiting → r.key.cls = .hour → r.hasPart = true → r.entriesOut = 0 → r.cursor = 0 →
     1 < r.length → r.mark ch = .none → d.reached s.st.tb.run = true →
     r.deadline2 = some d ∨ (r.deadline1 = some d ∧ s.st.pf.chimeStands r.key.day r.key.minute = false ∧
       s.st.pf.chimeRecent r.key.day r.key.minute = false) → s.st.cfg.hourBell = some bell →
     s.st.cfg.channelOf bell = some ch → s.st.channels[ch]? = some c → c.state = .ready → c.holder = .none → c.queue = [] →
     (s.st.channelCfg ch).lead ≤ 400 →
     let target := s.st.tb.now.plus (((s.st.channelCfg ch).lead * 1000 : Nat) : Int)
     exec .hourWaitDeadline s = .next (s.withSt ((s.st.setChannel ch { c with
         holder := .perf 0 0, isProtected := false
         queue := [{ target := target, owner := .slot 0, velocity := s.st.cfg.velocity, phrase := .none, late := .hour }] }).setRecord 0
       (some { r with
         state := .playing, start := target, nextTarget := target, cursor := 1, entriesOut := 1, marks := r.marks.set ch .held }))))

/-- The refusals of a START of a toll and of a tune in their order, a tune absent or OPEN among them, and a new key with a slot
free, its start more than 1,500 ms ahead, which makes a CUED local record, a tune with its default beat where the beat is 0,
and queues its CUE. The milliseconds of the start offset on the line round by a free value (log 14). -/
def Obligations.StartMakesAndSendsACue : Prop :=
  (∀ (s : State) (a : Ask) (cap : Capture) (args : List Byte), s.Asked a cap → 5 ≤ args.length → byteAt args 0 = 1 →
     let bell := byteAt args 1
     let k : Key := ⟨.toll, bell, 0, cap.day, cap.us / 60000000⟩
     (bell = 0 ∨ 64 < bell → exec (.start a args) s = .next (s.withSt (s.st.heard.answered a 11 .range []))) ∧
     (1 ≤ bell → bell ≤ 64 → s.st.cfg.cueCapable = false ∨ s.st.pf.silenced = true ∨ s.st.tb.valid = false →
       exec (.start a args) s = .next (s.withSt (s.st.heard.answered a 11 .state []))) ∧
     (1 ≤ bell → bell ≤ 64 → s.st.cfg.cueCapable = true → s.st.pf.silenced = false → s.st.tb.valid = true →
       (s.st.pf.slotOf k).isSome = true ∨ s.st.pf.isRecent k = true →
       exec (.start a args) s = .next (s.withSt ((s.st.heard.bump .duplicateCues).answered a 11 .state []))) ∧
     (1 ≤ bell → bell ≤ 64 → s.st.cfg.cueCapable = true → s.st.pf.silenced = false → s.st.tb.valid = true → s.st.pf.slotOf k = none →
       s.st.pf.isRecent k = false → s.st.pf.freeSlot = none →
       exec (.start a args) s = .next (s.withSt ((s.st.heard.raise .tableFull).answered a 11 .full []))) ∧
     (1 ≤ bell → bell ≤ 64 → s.st.cfg.cueCapable = true → s.st.pf.silenced = false → s.st.tb.valid = true → s.st.pf.slotOf k = none →
       s.st.pf.isRecent k = false → s.st.bus.mayQueue = true → s.st.bus.queue.length < 8 → s.st.record 0 = none →
       ∀ slot, s.st.pf.freeSlot = some slot →
       let start := (TowerTime.mk cap.day cap.us).plus ((s.st.cfg.cueLead * 1000 : Nat) : Int)
       s.st.tb.now.diff (start.plus (-1500000)) < 0 →
       ∃ r : Record, exec (.start a args) s = .next (s.withSt (((Station.queued s.st.heard
           (.cue k (offsetMs (start.diff (TowerTime.ofMinute k.day k.minute)).toNat) r.beat r.length)).setRecord slot (some r)).answered a 11
             .done [])) ∧
         r.key = k ∧ r.state = .cued ∧ r.start = start ∧ r.origin = .localCue ∧ r.frameState = .queued ∧
         r.beat = max 1000 (min 60000 (word16 args 2)) ∧ r.length = byteAt args 4 ∧ r.hasPart = s.st.cfg.isOwn bell)) ∧
  (∀ (s : State) (a : Ask) (cap : Capture) (args : List Byte), s.Asked a cap → 4 ≤ args.length → byteAt args 0 = 0 →
    let n := byteAt args 1
    let k : Key := ⟨.tune, n, 0, cap.day, cap.us / 60000000⟩
    let allowed := 1 ≤ n ∧ n ≤ 250 ∧ s.st.cfg.cueCapable = true ∧ s.st.pf.silenced = false ∧ s.st.tb.valid = true
    (n = 0 ∨ 250 < n → exec (.start a args) s = .next (s.withSt (s.st.heard.answered a 11 .range []))) ∧
    (1 ≤ n → n ≤ 250 → s.st.cfg.cueCapable = false ∨ s.st.pf.silenced = true ∨ s.st.tb.valid = false →
      exec (.start a args) s = .next (s.withSt (s.st.heard.answered a 11 .state []))) ∧
    (allowed → (∀ t, s.st.pg.tune n = some t → t.state = .opened) →
      exec (.start a args) s = .next (s.withSt (s.st.heard.answered a 11 .state []))) ∧
    (allowed → ∀ t, s.st.pg.tune n = some t → t.state ≠ .opened →
      ((s.st.pf.slotOf k).isSome = true ∨ s.st.pf.isRecent k = true →
        exec (.start a args) s = .next (s.withSt ((s.st.heard.bump .duplicateCues).answered a 11 .state []))) ∧
      (s.st.pf.slotOf k = none → s.st.pf.isRecent k = false → s.st.pf.freeSlot = none →
        exec (.start a args) s = .next (s.withSt ((s.st.heard.raise .tableFull).answered a 11 .full []))) ∧
      (s.st.pf.slotOf k = none → s.st.pf.isRecent k = false → s.st.bus.mayQueue = true → s.st.bus.queue.length < 8 →
        ∀ slot, s.st.pf.freeSlot = some slot →
        let start := (TowerTime.mk cap.day cap.us).plus ((s.st.cfg.cueLead * 1000 : Nat) : Int)
        s.st.tb.now.diff (start.plus (-1500000)) < 0 →
        ∃ r : Record, exec (.start a args) s = .next (s.withSt (((Station.queued s.st.heard
            (.cue k (offsetMs (start.diff (TowerTime.ofMinute k.day k.minute)).toNat) r.beat r.length)).setRecord slot (some r)).answered a
              11 .done [])) ∧
          r.key = k ∧ r.state = .cued ∧ r.start = start ∧ r.origin = .localCue ∧ r.frameState = .queued ∧
          r.beat = max 150 (min 2000 (if word16 args 2 = 0 then t.beat else word16 args 2)) ∧
          r.length = max 1 (min 4096 t.length) ∧ (r.hasPart = true ↔ 0 < t.own) ∧
          r.ends = some (start.plus ((r.length * r.beat * 1000 : Nat) : Int)))))

/-! ## The strike unit -/

/-- A PANEL entry that is due on a READY channel, its interval passed and a slot free, strikes for the pulse width of its
velocity, the launch is recorded, the entry leaves the queue and PANEL is no longer holder; without its launch moment, a READY
channel, its repeat interval or a free slot the command changes nothing (log 2). A PANEL entry more than 500 ms late is
removed; a tune's waiting note more than 100 ms late leaves the slot and its record; each counts as a late drop with its flag.
An entry that a tune, chime or toll owns launches and is dropped alike, the bell kept, and is no longer out at its record,
whose next stroke a toll's or the hour's launch times and, of a record PLAYING, is then considered, the hour's first launch
recorded. A slot is free for a bell when slots are left after the pulses and the due bells of earlier targets, or of equal
ones and lower channels. That a READY channel launches whatever its sensor shows meanwhile (log 31), that an entry placed
after its launch moment is late from that moment (log 55), that a lateness within the gain of the last crystal cycle is
reported as 0, in the last clause and in a toll's (log 25), and that a pulse width ends at the first whole cycle at or after
it (log 29) are the model's inferences. -/
def Obligations.HammersAreLaunched : Prop :=
  (∀ (s : State) (ch : Nat) (c : Channel) (e : StrikeEntry), s.settled → s.st.running = true → s.st.channels[ch]? = some c →
     c.queue = [e] → c.holder = .panel → c.waiting = none → c.state = .ready → 0 ≤ s.st.latenessOf ch e → e.late = .panel →
     s.st.latenessOf ch e ≤ 500000 → (∀ t ∈ c.lastLaunch, (s.st.channelCfg ch).interval * 32768 ≤ t.elapsed s.st.tb.run * 1000) →
     s.st.slotFree ch = true →
     let k := s.st.channelCfg ch
     let width := if e.velocity = 1 then k.width1 else if e.velocity = 2 then k.width2 else if e.velocity = 3 then k.width3 else k.width4
     exec (.hammerLaunch ch) s = .next (s.withSt (s.st.setChannel ch { c with
       state := .striking, lastLaunch := some s.st.tb.run, pulseEnd := some (s.st.tb.run.plus (msCycles width)), lostAt := none
       holder := .none, openPhrase := false, isProtected := false, queue := [] }))) ∧
  (∀ (s : State) (ch : Nat) (c : Channel) (e : StrikeEntry) (rest : List StrikeEntry), s.settled → s.st.channels[ch]? = some c →
     c.queue = e :: rest →
     (s.st.latenessOf ch e < 0 ∨ c.state ≠ .ready ∨ s.st.cfg.hammerSlots ≤ s.st.slotsInUse ∨
       (∃ t ∈ c.lastLaunch, t.elapsed s.st.tb.run * 1000 < (s.st.channelCfg ch).interval * 32768)) →
     exec (.hammerLaunch ch) s = .next s) ∧
  ((∀ (s : State) (ch : Nat) (c : Channel) (e : StrikeEntry), s.settled → s.st.running = true → s.st.channels[ch]? = some c →
     c.queue = [e] → c.holder = .panel → c.waiting = none → e.late = .panel → e.phrase = .none → 500000 < s.st.latenessOf ch e →
     exec (.lateLimitExpiry ch) s = .next (s.withSt (((s.st.bump .lateDrops).raise .lateDrop).setChannel ch { c with
       holder := .none, openPhrase := false, isProtected := false, queue := [] }))) ∧
   (∀ (s : State) (ch : Nat) (c : Channel) (w : WaitingNote) (r : Record) (b : Bool), s.settled → s.st.running = true →
     s.st.channels[ch]? = some c → c.waiting = some w → w.note.late = .tune → 100000 < s.st.latenessOf ch w.note →
     w.slot < s.st.pf.table.length → s.st.record w.slot = some r → r.key.cls = .tune → r.mark ch = .claimed b →
     exec (.waitingNoteExpiry ch) s = .next (s.withSt ((((s.st.bump .lateDrops).raise .lateDrop).setChannel ch { c with
       waiting := none }).setRecord w.slot (some { r with
         entriesOut := r.entriesOut - 1, marks := r.marks.set ch (if b then .held else .none) }))))) ∧
  (∀ (s : State) (ch slot p : Nat) (c : Channel) (e : StrikeEntry) (rest : List StrikeEntry) (r : Record), s.settled →
     s.st.running = true → s.st.channels[ch]? = some c → c.queue = e :: rest → c.holder = .perf slot p → c.waiting = none →
     slot < s.st.pf.table.length → s.st.record slot = some r →
     let k := s.st.channelCfg ch
     let width := if e.velocity = 1 then k.width1 else if e.velocity = 2 then k.width2 else if e.velocity = 3 then k.width3 else k.width4
     let struck : Channel := { c with
       state := .striking, lastLaunch := some s.st.tb.run, pulseEnd := some (s.st.tb.run.plus (msCycles width)), lostAt := none
       queue := rest, isProtected := false
       openPhrase := match e.phrase with
         | .start | .inside => true
         | .none | .ends => false }
     let late := s.st.reportedLateness ch e
     let sound := s.st.tb.now.plus ((k.lead * 1000 : Nat) : Int)
     (c.state = .ready → 0 ≤ s.st.latenessOf ch e → (e.late = .tune ∨ e.late = .quarter) ∧ s.st.latenessOf ch e ≤ 100000 ∨
         e.late = .toll ∨ e.late = .hour →
       (∀ t ∈ c.lastLaunch, k.interval * 32768 ≤ t.elapsed s.st.tb.run * 1000) → s.st.slotFree ch = true →
       (r.key.cls = .tune ∨ r.key.cls = .quarter →
         exec (.hammerLaunch ch) s = .next (s.withSt ((s.st.setChannel ch struck).setRecord slot
           (some { r with entriesOut := r.entriesOut - 1 })))) ∧
       (r.key.cls = .toll → r.state = .ending →
         exec (.hammerLaunch ch) s = .next (s.withSt ((s.st.setChannel ch struck).setRecord slot
           (some { r with
             entriesOut := r.entriesOut - 1
             nextTarget := (if late ≤ 1000000 then r.nextTarget else sound).plus ((r.beat * 1000 : Nat) : Int) })))) ∧
       (r.key.cls = .hour → r.state = .ending →
         exec (.hammerLaunch ch) s = .next (s.withSt (Station.setRecord { s.st.setChannel ch struck with pf := { s.st.pf with
             lastHour := if r.firstLaunched then s.st.pf.lastHour else some s.st.tb.run } } slot
           (some { r with
             entriesOut := r.entriesOut - 1, firstLaunched := true
             nextTarget := sound.plus ((r.beat * 1000 : Nat) : Int) })))) ∧
       (r.key.cls = .toll ∨ r.key.cls = .hour → r.state = .playing →
         let next := (if r.key.cls = .toll ∧ late ≤ 1000000 then r.nextTarget else sound).plus ((r.beat * 1000 : Nat) : Int)
         let told := Station.setRecord { s.st.setChannel ch struck with pf := { s.st.pf with
             lastHour := if r.key.cls = .hour ∧ r.firstLaunched = false then some s.st.tb.run else s.st.pf.lastHour } } slot
           (some { r with
             entriesOut := r.entriesOut - 1, nextTarget := next
             firstLaunched := if r.key.cls = .hour then true else r.firstLaunched })
         exec (.hammerLaunch ch) s = .next (s.withSt (told.feedNow [slot])) ∧
         (∀ bell, (if r.key.cls = .hour then s.st.cfg.hourBell else some r.key.number) = some bell →
           s.st.cfg.channelOf bell = some ch →
           1500000 < (next.plus (-((k.lead * 1000 : Nat) : Int))).diff s.st.tb.now →
           exec (.hammerLaunch ch) s = .next (s.withSt told)))) ∧
     (r.key.cls = .tune ∨ r.key.cls = .quarter → e.late = .tune ∨ e.late = .quarter → e.phrase = .none → 100000 < s.st.latenessOf ch e →
       exec (.lateLimitExpiry ch) s = .next (s.withSt ((((s.st.bump .lateDrops).raise .lateDrop).setChannel ch { c with
         queue := rest, isProtected := false, openPhrase := false }).setRecord slot
           (some { r with entriesOut := r.entriesOut - 1 }))))) ∧
  (∀ (s : Station) (ch : Nat) (e : StrikeEntry),
     s.reportedLateness ch e = (if s.latenessOf ch e * 512 + (s.tb.frac : Int) < (s.tb.lastGain : Int) then 0 else s.latenessOf ch e) ∧
     s.latenessOf ch e = s.tb.now.diff (e.target.plus (-(((s.channelCfg ch).lead * 1000 : Nat) : Int)))) ∧
  (∀ (s : Station) (ch : Nat),
     let before := fun o : Nat => ∃ x xs y ys, (s.channel o).queue = x :: xs ∧ (s.channel ch).queue = y :: ys ∧
       (x.target.diff y.target < 0 ∨ (x.target.diff y.target = 0 ∧ o < ch)) ∧ 0 ≤ s.latenessOf o x ∧ (s.channel o).state = .ready ∧
       (∀ t ∈ (s.channel o).lastLaunch, (s.channelCfg o).interval * 32768 ≤ t.elapsed s.tb.run * 1000) ∧
       (x.late = .tune ∨ x.late = .quarter → s.latenessOf o x ≤ 100000) ∧ (x.late = .panel → s.latenessOf o x ≤ 500000)
     ∃ first : List Nat, first.Nodup ∧ (∀ o, o ∈ first ↔ o < 8 ∧ before o) ∧
       (s.slotFree ch = true ↔
         (s.channels.countP fun c => decide (c.state = .striking)) + first.length < s.cfg.hammerSlots))

/-- At the end of a pulse the driver is released and the channel settles, or is READY at once at rest with its interval
passed; a settling channel is READY when it shows rest and its interval has passed, and settles on until then. -/
def Obligations.HammersReturn : Prop :=
  (∀ (s : State) (ch : Nat) (c : Channel) (d : RunTime), s.settled → s.st.inService = true → s.st.channels[ch]? = some c →
     c.state = .striking → c.pulseEnd = some d → d.reached s.st.tb.run = true →
     (s.st.showsRest ch = false → exec (.hammerPulseEnd ch) s = .next (s.withSt (s.st.setChannel ch { c with
       state := .settling, pulseEnd := none, pulseEnded := some s.st.tb.run, restTaken := false, rested := false, lostAt := none }))) ∧
     (s.st.showsRest ch = true → (∀ t ∈ c.lastLaunch, (s.st.channelCfg ch).interval * 32768 ≤ t.elapsed s.st.tb.run * 1000) →
       exec (.hammerPulseEnd ch) s = .next (s.withSt (s.st.setChannel ch { c with
         state := .ready, pulseEnd := none, pulseEnded := none, restTaken := true, rested := true, lostAt := none })))) ∧
  (∀ (s : State) (ch : Nat) (c : Channel), s.settled → s.st.inService = true → s.st.channels[ch]? = some c → c.state = .settling →
     let passed := ∀ t ∈ c.lastLaunch, (s.st.channelCfg ch).interval * 32768 ≤ t.elapsed s.st.tb.run * 1000
     let rested := { c with restTaken := true, rested := true, lostAt := none }
     (s.st.showsRest ch = true → c.restTaken = false → passed →
       exec (.returnSensorRest ch) s = .next (s.withSt (s.st.setChannel ch { rested with state := .ready, pulseEnded := none }))) ∧
     (s.st.showsRest ch = true → c.restTaken = false → ¬passed →
       exec (.returnSensorRest ch) s = .next (s.withSt (s.st.setChannel ch rested))) ∧
     (c.restTaken = true → c.rested = true → passed →
       exec (.repeatIntervalPassed ch) s = .next (s.withSt (s.st.setChannel ch { c with state := .ready, pulseEnded := none }))))

/-- A loss of rest is timed from when it is taken; 400 ms without rest after a pulse, or more than 100 ms of loss, make a
channel FAULTED, its queue and slot empty and its flag set. RECHECK makes a FAULTED channel at rest READY, its last launch
kept, and refuses one not at rest, one in any other state, and a number above 7. The fault is told to a performance that
holds the bell and to one whose note waits: their entries are out no more, the bell is FAULTED for them, and a toll is
aborted. -/
def Obligations.HammersFaultAndAreRechecked : Prop :=
  ((∀ (s : State) (ch : Nat) (c : Channel), s.settled → s.st.inService = true → s.st.channels[ch]? = some c →
     c.state = .ready ∨ (c.state = .settling ∧ c.rested = true) → s.st.showsRest ch = false → c.restTaken = true →
     exec (.returnSensorLoss ch) s = .next (s.withSt (s.st.setChannel ch { c with restTaken := false, lostAt := some s.st.tb.run }))) ∧
   (∀ (s : State) (ch : Nat) (c : Channel) (t : RunTime), s.settled → s.st.inService = true → s.st.channels[ch]? = some c →
     c.holder = .none → c.waiting = none →
     let faulted := (s.st.raise .hammerFault).setChannel ch { c with
       state := .faulted, holder := .none, waiting := none, openPhrase := false, isProtected := false, queue := []
       pulseEnd := none, pulseEnded := none, lostAt := none }
     (c.state = .settling → c.rested = false → c.pulseEnded = some t → 400 * 32768 ≤ t.elapsed s.st.tb.run * 1000 →
       exec (.returnTimeout ch) s = .next (s.withSt faulted)) ∧
     (c.state = .ready ∨ c.state = .settling → c.lostAt = some t → 100 * 32768 < t.elapsed s.st.tb.run * 1000 →
       exec (.restLossLimit ch) s = .next (s.withSt faulted)))) ∧
  (∀ (s : State) (ch slot : Nat) (c : Channel) (t : RunTime) (r : Record), s.settled → s.st.running = true → ch < 8 →
     s.st.channels[ch]? = some c → c.state = .ready ∨ c.state = .settling → c.lostAt = some t →
     100 * 32768 < t.elapsed s.st.tb.run * 1000 → s.st.record slot = some r →
     let faulted := (s.st.raise .hammerFault).setChannel ch { c with
       state := .faulted, holder := .none, waiting := none, openPhrase := false, isProtected := false, queue := []
       pulseEnd := none, pulseEnded := none, lostAt := none }
     let told := fun k : Nat => { r with entriesOut := r.entriesOut - k, marks := r.marks.set ch .faulted }
     (∀ p, c.holder = .perf slot p → c.waiting = none →
       (r.key.cls = .tune ∨ r.key.cls = .quarter →
         exec (.restLossLimit ch) s = .next (s.withSt (faulted.setRecord slot (some (told c.queue.length))))) ∧
       (r.key.cls = .toll → r.marks = (List.replicate 8 BellMark.none).set ch .held → r.frameState ≠ .queued →
         exec (.restLossLimit ch) s = .next (s.withSt { faulted with pf := { s.st.pf with
           table := s.st.pf.table.set slot none
           recent := (if s.st.pf.recent.length < 8 then s.st.pf.recent else s.st.pf.recent.drop 1) ++
             [⟨r.key, .aborted, s.st.tb.run⟩] } }))) ∧
     (∀ w, c.waiting = some w → w.slot = slot → r.key.cls = .tune ∨ r.key.cls = .quarter →
       (c.holder = .panel → exec (.restLossLimit ch) s = .next (s.withSt (faulted.setRecord slot (some (told 1))))) ∧
       (∀ other p h, c.holder = .perf other p → other ≠ slot → s.st.record other = some h →
         h.key.cls = .tune ∨ h.key.cls = .quarter →
         exec (.restLossLimit ch) s = .next (s.withSt ((faulted.setRecord slot (some (told 1))).setRecord other (some { h with
           entriesOut := h.entriesOut - c.queue.length, marks := h.marks.set ch .faulted })))))) ∧
  (∀ (s : State) (a : Ask) (cap : Capture) (args : List Byte), s.Asked a cap → 1 ≤ args.length →
     let ch := byteAt args 0
     (7 < ch → exec (.recheck a args) s = .next (s.withSt (s.st.heard.answered a 18 .range []))) ∧
     (ch ≤ 7 → ∀ c, s.st.channels[ch]? = some c →
       (c.state ≠ .faulted ∨ s.st.showsRest ch = false →
         exec (.recheck a args) s = .next (s.withSt (s.st.heard.answered a 18 .state []))) ∧
       (c.state = .faulted → s.st.showsRest ch = true →
         exec (.recheck a args) s = .next (s.withSt ((s.st.heard.setChannel ch { c with
           state := .ready, restTaken := true, rested := true, lostAt := none }).answered a 18 .done [])))))

/-- The refusals of STRIKE in their order, and otherwise a PANEL entry whose launch moment lies the delay after the start bit
of the request. -/
def Obligations.StrikePlacesAPanelEntry : Prop :=
  ∀ (s : State) (a : Ask) (cap : Capture) (args : List Byte), s.Asked a cap → 4 ≤ args.length →
    let bell := byteAt args 0
    let velocity := byteAt args 1
    let delay := word16 args 2
    let inRange := 1 ≤ bell ∧ bell ≤ 64 ∧ 1 ≤ velocity ∧ velocity ≤ 4 ∧ delay ≤ 60000
    (¬inRange → exec (.strike a args) s = .next (s.withSt (s.st.heard.answered a 12 .range []))) ∧
    (inRange → s.st.cfg.channelOf bell = none → exec (.strike a args) s = .next (s.withSt (s.st.heard.answered a 12 .state []))) ∧
    (inRange → ∀ ch c, s.st.cfg.channelOf bell = some ch → s.st.channels[ch]? = some c →
      (s.st.pf.silenced = true ∨ c.state = .faulted ∨ c.holder ≠ .none ∨ c.waiting.isSome = true →
        exec (.strike a args) s = .next (s.withSt (s.st.heard.answered a 12 .state []))) ∧
      (s.st.pf.silenced = false → c.state ≠ .faulted → c.holder = .none → c.waiting = none →
        exec (.strike a args) s = .next (s.withSt ((s.st.heard.setChannel ch { c with
          holder := .panel
          queue := [{ target := (TowerTime.mk cap.day cap.us).plus (((delay + (s.st.channelCfg ch).lead) * 1000 : Nat) : Int)
                      owner := .panel, velocity := velocity, phrase := .none, late := .panel }] }).answered a 12 .done []))))

/-! ## The dial unit -/

/-- At a boundary a dial without a draw one step behind takes its single pulse, one at its target stands, and one more than
720 steps behind holds; the other dials are unused. One 2 to 720 steps behind, or whose position is unknown, asks for its
draw and waits, the DRAW queued when it fits the limit, half the budget in the quiet period. A dial catching up or seeking
begins its next pulse at its interval: polarity turned, position one step on, pulse end one width ahead, the sensor read. At
the end of a seek pulse without a mark the next is counted, a marked one puts the hands at twelve to catch up, and the
1,440th makes the dial FAULTED, its draw freed. At the end of a single pulse the hands at their
target are IDLE, a missed twelve is counted and flagged at the second, and a marked pulse elsewhere puts the hands at twelve
with its flag; a catch-up pulse that fell due while the drive was energised begins at the end of the one in progress. -/
def Obligations.DialsMoveTheHands : Prop :=
  (∀ (s : State) (at30 p : Nat) (x : Dial), s.settled → s.st.running = true → s.st.tb.valid = true → s.st.tb.dialDue = some at30 →
     s.st.dials[0]? = some x → (∀ y ∈ s.st.dials.drop 1, y.state = .unused) → x.position = some p → p < 1440 → x.draw = .none →
     x.pulseEnd = none → x.state ≠ .unused → x.state ≠ .faulted →
     let target := s.st.tb.civil.us / 1000000 / 30 % 1440
     let distance := (target + 1440 - p) % 1440
     let taken : Station := { s.st with tb := { s.st.tb with dialDue := none } }
     (distance = 0 → exec .dialBoundary s = .next (s.withSt (taken.setDial 0 { x with state := .idle, renewalDue := none }))) ∧
     (distance = 1 → exec .dialBoundary s = .next (s.withSt (taken.setDial 0 { x with
       state := .pulsing, renewalDue := none, polarity := x.polarity.turned, position := some ((p + 1) % 1440)
       lastBegin := some s.st.tb.run, pulseEnd := some (s.st.tb.run.plus (msCycles (s.st.dialCfg 0).width))
       beganActive := s.st.atTwelve 0 }))) ∧
     (720 < distance → exec .dialBoundary s = .next (s.withSt (taken.setDial 0 { x with state := .holding, renewalDue := none })))) ∧
  (∀ (s : State) (at30 hold : Nat) (x : Dial), s.settled → s.st.running = true → s.st.tb.dialDue = some at30 →
     s.st.dials[0]? = some x → (∀ y ∈ s.st.dials.drop 1, y.state = .unused) → x.draw = .none → x.pulseEnd = none →
     x.state ≠ .unused → x.state ≠ .faulted → s.st.sup.waiting = [] → s.st.sup.frees = [] → s.st.sup.incomplete = false →
     (x.position = none ∧ hold = 150) ∨ (s.st.tb.valid = true ∧ ∃ p ∈ x.position, p < 1440 ∧
       let distance := (s.st.tb.civil.us / 1000000 / 30 % 1440 + 1440 - p) % 1440
       2 ≤ distance ∧ distance ≤ 720 ∧ hold = min 150 (distance * (s.st.dialCfg 0).interval + 10)) →
     let amount := (s.st.dialCfg 0).current
     let view := (s.st.sup.draws.map fun e => e.amount).sum
     let asked := fun queued : Bool => { { s.st with tb := { s.st.tb with dialDue := none } }.setDial 0
         { x with state := .waitingSupply, draw := .pending } with
       sup := { s.st.sup with waiting := [{ id := 8, amount := amount, hold := hold, increase := false, queued := queued,
                                            requested := s.st.tb.run, told := false }] } }
     (view + amount ≤ s.st.placingLimit → s.st.bus.mayQueue = true → s.st.bus.queue.length < 8 →
       exec .dialBoundary s = .next (s.withSt { asked true with bus := s.st.bus.append (.draw 8 amount hold .new) })) ∧
     (s.st.placingLimit < view + amount → exec .dialBoundary s = .next (s.withSt (asked false)))) ∧
  (∀ (s : State) (d : Nat) (x : Dial), s.settled → s.st.inService = true → s.st.dials[d]? = some x →
     (∀ p ∈ x.position, p < 1440) → x.state = .catchingUp ∨ x.state = .seeking → x.pulseEnd = none →
     (∀ t ∈ x.lastBegin, (t.plus ((s.st.dialCfg d).interval * 32768)).reached s.st.tb.run = true) →
     exec (.dialPulseBegin d) s = .next (s.withSt (s.st.setDial d { x with
       polarity := match x.polarity with
         | .positive => .negative
         | .negative => .positive
       position := x.position.map fun p => (p + 1) % 1440
       lastBegin := some s.st.tb.run
       pulseEnd := some (s.st.tb.run.plus (msCycles (s.st.dialCfg d).width)), beganActive := s.st.atTwelve d }))) ∧
  (∀ (s : State) (d p : Nat) (x : Dial) (e : RunTime), s.settled → s.st.running = true → s.st.tb.valid = true → s.st.dials[d]? = some x →
     x.position = some p → p < 1440 → x.state = .pulsing → x.draw = .none → x.pulseEnd = some e → e.reached s.st.tb.run = true →
     let target := s.st.tb.civil.us / 1000000 / 30 % 1440
     let marked := x.beganActive = false ∧ s.st.atTwelve d = true
     let still := { x with pulseEnd := none, state := .idle, renewalDue := none }
     (p = target → p ≠ 0 → ¬marked → exec (.dialPulseEnd d) s = .next (s.withSt (s.st.setDial d still))) ∧
     (p = target → p = 0 → marked → exec (.dialPulseEnd d) s = .next (s.withSt (s.st.setDial d { still with misses := 0 }))) ∧
     (p = target → p = 0 → ¬marked →
       exec (.dialPulseEnd d) s = .next (s.withSt
         ((if 1 ≤ x.misses then s.st.raise .dialSensorFault else s.st).setDial d { still with misses := min 2 (x.misses + 1) }))) ∧
     (target = 0 → p ≠ 0 → marked →
       exec (.dialPulseEnd d) s = .next (s.withSt ((s.st.raise .dialSlip).setDial d { still with misses := 0, position := some 0 })))) ∧
  (∀ (s : State) (d p : Nat) (x : Dial) (e b : RunTime), s.settled → s.st.running = true → s.st.tb.valid = true → s.st.dials[d]? = some x →
     x.position = some p → p ≠ 0 → p < 1440 → x.state = .catchingUp → x.draw = .live → x.pulseEnd = some e →
     e.reached s.st.tb.run = true → x.beganActive = true ∨ s.st.atTwelve d = false → x.lastBegin = some b →
     let distance := (s.st.tb.civil.us / 1000000 / 30 % 1440 + 1440 - p) % 1440
     1 ≤ distance → distance ≤ 720 →
     ((b.plus ((s.st.dialCfg d).interval * 32768)).reached s.st.tb.run = true →
       exec (.dialPulseEnd d) s = .next (s.withSt (s.st.setDial d { x with
         polarity := x.polarity.turned, position := some ((p + 1) % 1440), lastBegin := some s.st.tb.run
         pulseEnd := some (s.st.tb.run.plus (msCycles (s.st.dialCfg d).width)), beganActive := s.st.atTwelve d }))) ∧
     ((b.plus ((s.st.dialCfg d).interval * 32768)).reached s.st.tb.run = false →
       exec (.dialPulseEnd d) s = .next (s.withSt (s.st.setDial d { x with pulseEnd := none })))) ∧
  (∀ (s : State) (d : Nat) (x : Dial) (e b : RunTime), s.settled → s.st.running = true → s.st.dials[d]? = some x →
     x.position = none → x.state = .seeking → x.draw = .live → x.pulseEnd = some e → e.reached s.st.tb.run = true →
     x.lastBegin = some b → (b.plus ((s.st.dialCfg d).interval * 32768)).reached s.st.tb.run = false →
     let marked := x.beganActive = false ∧ s.st.atTwelve d = true
     let target := s.st.tb.civil.us / 1000000 / 30 % 1440
     (¬marked → x.seeks + 1 < 1440 →
       exec (.dialPulseEnd d) s = .next (s.withSt (s.st.setDial d { x with pulseEnd := none, seeks := x.seeks + 1 }))) ∧
     (marked → s.st.tb.valid = true → 1 ≤ target → target ≤ 720 →
       exec (.dialPulseEnd d) s = .next (s.withSt (s.st.setDial d { x with
         pulseEnd := none, position := some 0, misses := 0, seeks := 0, state := .catchingUp }))) ∧
     (¬marked → x.seeks = 1439 → s.st.sup.waiting = [] → (∀ q ∈ s.st.bus.queue, q.frame.isDrawOf (8 + d) = false) →
       s.st.bus.mayQueue = true → s.st.bus.queue.length < 8 →
       exec (.dialPulseEnd d) s = .next (s.withSt { s.st.setDial d { x with
           pulseEnd := none, seeks := 1440, state := .faulted, draw := .none, renewalDue := none } with
         sup := { s.st.sup with draws := s.st.sup.draws.filter fun o => decide ¬(o.own = true ∧ o.id = 8 + d) }
         bus := s.st.bus.append (.free (8 + d)) })))

/-- A DIAL_SET sent to 15 is not taken; the refusals in their order; a dial without a draw set to its target is IDLE, its
counts 0 and its polarity kept; set elsewhere it gives a single pulse, asks for a draw, or holds, as with the time unset; set
to UNKNOWN it asks for its seek's draw. A live draw is kept by a dial that catches up or seeks, and freed by one at its target
or to hold; a pending one waits on, or is cancelled. -/
def Obligations.DialSetReplacesThePosition : Prop :=
  (∀ (s : State) (a : Ask) (cap : Capture) (args : List Byte), s.Asked a cap → a.target ≠ s.st.cfg.number →
    exec (.dialSet a args) s = .next (s.withSt s.st.heard)) ∧
  (∀ (s : State) (a : Ask) (cap : Capture) (args : List Byte), s.Asked a cap → a.target = s.st.cfg.number → 3 ≤ args.length →
    let d := byteAt args 0
    let p := word16 args 1
    (3 < d ∨ (1439 < p ∧ p ≠ 65535) → exec (.dialSet a args) s = .next (s.withSt (s.st.heard.answered a 17 .range []))) ∧
    (d ≤ 3 → p ≤ 1439 ∨ p = 65535 → ∀ x, s.st.dials[d]? = some x →
      (x.state = .unused → exec (.dialSet a args) s = .next (s.withSt (s.st.heard.answered a 17 .state []))) ∧
      (x.state ≠ .unused → x.pulseEnd.isSome = true →
        exec (.dialSet a args) s = .next (s.withSt (s.st.heard.answered a 17 .busy []))) ∧
      (x.state ≠ .unused → x.pulseEnd = none → x.draw = .none → s.st.tb.valid = true →
        p = s.st.tb.civil.us / 1000000 / 30 % 1440 →
        exec (.dialSet a args) s = .next (s.withSt ((s.st.heard.setDial d { x with
          state := .idle, position := some p, misses := 0, seeks := 0, renewalDue := none }).answered a 17 .done []))) ∧
      (x.state ≠ .unused → x.pulseEnd = none →
        let distance := (s.st.tb.civil.us / 1000000 / 30 % 1440 + 1440 - p) % 1440
        let position := if p = 65535 then none else some p
        let still : Dial := { x with position := position, misses := 0, seeks := 0 }
        let done := fun (b : Bus) (u : Supply) (y : Dial) => exec (.dialSet a args) s = .next (s.withSt
          (Station.answered { s.st.heard with bus := b, sup := u, dials := s.st.dials.set d y } a 17 .done []))
        (x.draw = .none →
          (p ≠ 65535 → s.st.tb.valid = false → done s.st.heard.bus s.st.sup { still with state := .holding, renewalDue := none }) ∧
          (p ≠ 65535 → s.st.tb.valid = true → 720 < distance →
            done s.st.heard.bus s.st.sup { still with state := .holding, renewalDue := none }) ∧
          (p ≠ 65535 → s.st.tb.valid = true → distance = 1 → done s.st.heard.bus s.st.sup { still with
            state := .pulsing, renewalDue := none, polarity := x.polarity.turned, position := some ((p + 1) % 1440)
            lastBegin := some s.st.tb.run, pulseEnd := some (s.st.tb.run.plus (msCycles (s.st.dialCfg d).width))
            beganActive := s.st.atTwelve d }) ∧
          (∀ hold, (p = 65535 ∧ hold = 150) ∨ (p ≠ 65535 ∧ s.st.tb.valid = true ∧ 2 ≤ distance ∧ distance ≤ 720 ∧
              hold = min 150 (distance * (s.st.dialCfg d).interval + 10)) →
            s.st.sup.waiting = [] → s.st.sup.frees = [] → s.st.sup.incomplete = false →
            let amount := (s.st.dialCfg d).current
            let view := (s.st.sup.draws.map fun e => e.amount).sum
            let asks := fun queued : Bool => { s.st.sup with
              waiting := [{ id := 8 + d, amount := amount, hold := hold, increase := false, queued := queued,
                            requested := s.st.tb.run, told := false }] }
            let waits : Dial := { still with
              state := .waitingSupply, draw := .pending
              renewalDue := if x.state = .faulted then none else x.renewalDue }
            (view + amount ≤ s.st.placingLimit → s.st.bus.mayQueue = true → s.st.bus.queue.length < 8 →
              done (s.st.heard.bus.append (.draw (8 + d) amount hold .new)) (asks true) waits) ∧
            (s.st.placingLimit < view + amount → done s.st.heard.bus (asks false) waits))) ∧
        (x.draw = .live → x.state ≠ .faulted →
          (p = 65535 → done s.st.heard.bus s.st.sup { still with state := .seeking }) ∧
          (p ≠ 65535 → s.st.tb.valid = true → 1 ≤ distance → distance ≤ 720 →
            done s.st.heard.bus s.st.sup { still with state := .catchingUp }) ∧
          (p ≠ 65535 → s.st.tb.valid = true → distance = 0 ∨ 720 < distance → s.st.sup.waiting = [] →
            (∀ q ∈ s.st.bus.queue, q.frame.isDrawOf (8 + d) = false) → s.st.bus.mayQueue = true → s.st.bus.queue.length < 8 →
            done (s.st.heard.bus.append (.free (8 + d)))
              { s.st.sup with draws := s.st.sup.draws.filter fun o => decide ¬(o.own = true ∧ o.id = 8 + d) }
              { still with state := if distance = 0 then .idle else .holding, draw := .none, renewalDue := none })) ∧
        (x.draw = .pending → x.state ≠ .faulted →
          (p = 65535 ∨ (s.st.tb.valid = true ∧ 2 ≤ distance ∧ distance ≤ 720) →
            done s.st.heard.bus s.st.sup { still with state := .waitingSupply }) ∧
          (p ≠ 65535 → s.st.tb.valid = true → distance = 0 ∨ 720 < distance → ∀ i, s.st.sup.waiting = [i] → i.id = 8 + d →
            i.queued = false →
            done s.st.heard.bus { s.st.sup with waiting := [] }
              { still with state := if distance = 0 then .idle else .holding, draw := .none, renewalDue := none })))))

/-! ## The light and supply unit -/

/-- The live draw of a dial or a circuit is announced again with its amount, a dial's with the hold that its distance gives,
and the next renewal falls due 60 s on; a renewal that the queue refuses sets BUDGET_UNANNOUNCED. With a DRAW of the id in
the queue none is added, and an increase there serves for the renewal: dropped or flushed, it sets the flag too (log 40). -/
def Obligations.RenewalsAnnounceTheDraw : Prop :=
  (∀ (s : State) (d : Nat) (x : Dial) (t : RunTime) (e : DrawEntry), s.settled → s.st.inService = true → s.st.dials[d]? = some x →
     x.draw = .live → x.renewalDue = some t → t.reached s.st.tb.run = true → s.st.sup.ownEntry (8 + d) = some e →
     (∀ q ∈ s.st.bus.queue, q.frame.isDrawOf (8 + d) = false) →
     let hold := match x.position with
       | none => 150
       | some p => min 150 ((s.st.tb.civil.us / 1000000 / 30 % 1440 + 1440 - p) % 1440 * (s.st.dialCfg d).interval + 10)
     let next := s.st.setDial d { x with renewalDue := some (t.plus (60 * 32768)) }
     (s.st.running = true → s.st.bus.mayQueue = true → s.st.bus.queue.length < 8 →
       exec (.dialRenewalDue d) s = .next (s.withSt (next.queued (.draw (8 + d) e.amount hold .renewal)))) ∧
     (s.st.running = false ∨ s.st.bus.mayQueue = false ∨ 8 ≤ s.st.bus.queue.length →
       exec (.dialRenewalDue d) s = .next (s.withSt (next.raise .budgetUnannounced)))) ∧
  (∀ (s : State) (c : Nat) (x : Circuit) (t : RunTime) (e : DrawEntry), s.settled → s.st.inService = true →
     s.st.sup.circuits[c]? = some x → x.draw = .live → x.renewalDue = some t → t.reached s.st.tb.run = true →
     s.st.sup.ownEntry c = some e →
     let next := s.st.setCircuit c { x with renewalDue := some (t.plus (60 * 32768)) }
     let absent := ∀ q ∈ s.st.bus.queue, q.frame.isDrawOf c = false
     (absent → s.st.running = true → s.st.bus.mayQueue = true → s.st.bus.queue.length < 8 →
       exec (.circuitRenewalDue c) s = .next (s.withSt (next.queued (.draw c e.amount 150 .renewal)))) ∧
     (absent → s.st.running = false ∨ s.st.bus.mayQueue = false ∨ 8 ≤ s.st.bus.queue.length →
       exec (.circuitRenewalDue c) s = .next (s.withSt (next.raise .budgetUnannounced))) ∧
     (¬absent → exec (.circuitRenewalDue c) s = .next (s.withSt { next with bus := { s.st.bus with
       queue := s.st.bus.queue.map fun q => match q.frame with
         | .draw i amount hold (.increase serves) => { q with frame := .draw i amount hold (.increase (serves || decide (i = c))) }
         | _ => q } }))) ∧
  (∀ (s : Station) (id amount hold : Nat),
     (s.drawReport id amount hold (.increase true) .dropped).panel = s.panel.raise .budgetUnannounced ∧
     (s.drawReport id amount hold (.increase true) .flushed).panel = s.panel.raise .budgetUnannounced ∧
     (s.drawReport id amount hold (.increase false) .dropped).panel = s.panel ∧
     (s.drawReport id amount hold (.increase true) .flushedRestart).panel = s.panel)

/-- Heard entries are made, refreshed and removed; a twin's DRAW of an id that has an own entry changes nothing (log 43); a
DRAW for which there is no room makes the view incomplete with its flag, and the view is complete again at a removal that
leaves room 150 s after the last overflow. -/
def Obligations.HeardDrawsAreKept : Prop :=
  (∀ (s : State) (src : Nat) (payload : List Byte) (cap : Capture), s.settled → s.st.running = true → s.st.Hears src cap → src < 15 →
    payload.length = 3 → s.st.sup.waiting = [] → (∀ e ∈ s.st.sup.draws, e.own = true → e.station ≠ src) →
    let id := byteAt payload 0
    let amount := byteAt payload 1
    let hold := byteAt payload 2
    let heard := fun e : DrawEntry => e.own = false ∧ e.station = src ∧ e.id = id
    (amount = 0 ∨ hold = 0 ∨ 150 < hold → exec (.drawReceived src payload) s = .next (s.withSt s.st.heard)) ∧
    (id < 16 → 1 ≤ amount → 1 ≤ hold → hold ≤ 150 →
      ((∃ e ∈ s.st.sup.draws, heard e) →
        exec (.drawReceived src payload) s = .next (s.withSt { s.st.heard with sup := { s.st.sup with
          draws := s.st.sup.draws.map fun e => if e.own = false ∧ e.station = src ∧ e.id = id then
            { e with amount := amount, hold := hold, announced := some s.st.tb.run } else e } })) ∧
      ((∀ e ∈ s.st.sup.draws, ¬heard e) → s.st.sup.heardCount < 38 →
        exec (.drawReceived src payload) s = .next (s.withSt { s.st.heard with sup := { s.st.sup with
          draws := s.st.sup.draws ++ [{ station := src, id := id, amount := amount, own := false, hold := hold,
                                        announced := some s.st.tb.run }] } })) ∧
      ((∀ e ∈ s.st.sup.draws, ¬heard e) → 38 ≤ s.st.sup.heardCount →
        exec (.drawReceived src payload) s = .next (s.withSt (Station.raise { s.st.heard with sup := { s.st.sup with
          incomplete := true, lastOverflow := some s.st.tb.run } } .viewIncomplete))))) ∧
  (∀ (s : State) (payload : List Byte) (cap : Capture), s.settled → s.st.running = true → s.st.bus.state = .duplicate →
    s.st.bus.current = some ⟨cap, .receiving⟩ → payload.length = 3 → s.st.sup.waiting = [] →
    (∃ e ∈ s.st.sup.draws, e.own = true ∧ e.station = s.st.cfg.number ∧ e.id = byteAt payload 0) →
    exec (.drawReceived s.st.cfg.number payload) s = .next (s.withSt s.st.heard)) ∧
  (∀ (s : State) (src : Nat) (payload : List Byte) (cap : Capture), s.settled → s.st.running = true → s.st.Hears src cap →
    payload.length = 1 → s.st.sup.waiting = [] → s.st.sup.incomplete = false →
    exec (.freeReceived src payload) s = .next (s.withSt { s.st.heard with sup := { s.st.sup with
      draws := s.st.sup.draws.filter fun e => decide ¬(e.own = false ∧ e.station = src ∧ e.id = byteAt payload 0) } })) ∧
  (∀ (s : State) (station id : Nat) (e : DrawEntry) (t : RunTime), s.settled → s.st.inService = true →
    s.st.sup.heardEntry station id = some e → e.announced = some t → (t.plus (e.hold * 32768)).reached s.st.tb.run = true →
    s.st.sup.waiting = [] →
    let left := s.st.sup.draws.filter fun e => decide ¬(e.own = false ∧ e.station = station ∧ e.id = id)
    (s.st.sup.incomplete = false →
      exec (.drawEntryExpiry station id) s = .next (s.withSt { s.st with sup := { s.st.sup with draws := left } })) ∧
    (∀ o, s.st.sup.incomplete = true → s.st.sup.lastOverflow = some o → 150 * 32768 ≤ o.elapsed s.st.tb.run →
      s.st.sup.heardCount ≤ 38 →
      exec (.drawEntryExpiry station id) s = .next (s.withSt { s.st with sup := { s.st.sup with draws := left, incomplete := false } })))

/-- At the end of the quiet period the whole budget is the limit, and a waiting new draw is queued when it fits and waits on
when it does not; when a heard entry expires it is weighed too, against half the budget while the quiet period lasts. A heard
DRAW has the queued new draw weighed again: one that still fits stays queued, one that does not is withdrawn and waits. One
that has waited more than 120 s is told once, and the command changes nothing after that (log 2). -/
def Obligations.PendingDrawsWait : Prop :=
  (∀ (s : State) (q : RunTime) (i : PendingDraw), s.settled → s.st.running = true → s.st.sup.quietEnd = some q →
    q.reached s.st.tb.run = true → s.st.sup.waiting = [i] → i.queued = false → i.increase = false → s.st.sup.incomplete = false →
    s.st.bus.mayQueue = true → s.st.bus.queue.length < 8 →
    let view := (s.st.sup.draws.map fun e => e.amount).sum
    (view + i.amount ≤ s.st.cfg.budget →
      exec .quietPeriodEnd s = .next (s.withSt { s.st with
        sup := { s.st.sup with quietEnd := none, waiting := [{ i with queued := true }] }
        bus := s.st.bus.append (.draw i.id i.amount i.hold .new) })) ∧
    (s.st.cfg.budget < view + i.amount →
      exec .quietPeriodEnd s = .next (s.withSt { s.st with sup := { s.st.sup with quietEnd := none } }))) ∧
  (∀ (s : State) (station id : Nat) (e : DrawEntry) (t : RunTime) (i : PendingDraw), s.settled → s.st.running = true →
    s.st.sup.heardEntry station id = some e → e.announced = some t → (t.plus (e.hold * 32768)).reached s.st.tb.run = true →
    s.st.sup.waiting = [i] → i.queued = false → i.increase = false → s.st.sup.incomplete = false →
    s.st.bus.mayQueue = true → s.st.bus.queue.length < 8 →
    let left := s.st.sup.draws.filter fun e => decide ¬(e.own = false ∧ e.station = station ∧ e.id = id)
    let view := (left.map fun e => e.amount).sum
    (view + i.amount ≤ s.st.placingLimit →
      exec (.drawEntryExpiry station id) s = .next (s.withSt { s.st with
        sup := { s.st.sup with draws := left, waiting := [{ i with queued := true }] }
        bus := s.st.bus.append (.draw i.id i.amount i.hold .new) })) ∧
    (s.st.placingLimit < view + i.amount →
      exec (.drawEntryExpiry station id) s = .next (s.withSt { s.st with sup := { s.st.sup with draws := left } }))) ∧
  (∀ (s : State) (src : Nat) (payload : List Byte) (cap : Capture) (i : PendingDraw) (q : QueueSlot), s.settled →
    s.st.running = true → s.st.Hears src cap → src < 15 → payload.length = 3 → byteAt payload 0 < 16 → 1 ≤ byteAt payload 1 →
    1 ≤ byteAt payload 2 → byteAt payload 2 ≤ 150 →
    (∀ e ∈ s.st.sup.draws, ¬(e.station = src ∧ (e.own = true ∨ e.id = byteAt payload 0))) → s.st.sup.heardCount < 38 →
    s.st.sup.waiting = [i] → i.queued = true → i.increase = false → s.st.sup.incomplete = false → s.st.bus.queue = [q] →
    q.frame = .draw i.id i.amount i.hold .new →
    let draws := s.st.sup.draws ++ [{ station := src, id := byteAt payload 0, amount := byteAt payload 1, own := false,
                                      hold := byteAt payload 2, announced := some s.st.tb.run }]
    let view := (draws.map fun e => e.amount).sum
    (view + i.amount ≤ s.st.placingLimit →
      exec (.drawReceived src payload) s = .next (s.withSt { s.st.heard with sup := { s.st.sup with draws := draws } })) ∧
    (s.st.placingLimit < view + i.amount →
      exec (.drawReceived src payload) s = .next (s.withSt { s.st.heard with
        sup := { s.st.sup with draws := draws, waiting := [{ i with queued := false }] }
        bus := { s.st.heard.bus with queue := [] } }))) ∧
  (∀ (s : State) (id : Nat) (i : PendingDraw), s.settled → s.st.inService = true →
    s.st.sup.waiting.find? (fun j => decide (j.id = id)) = some i → 120 * 32768 < i.requested.elapsed s.st.tb.run →
    (i.told = false →
      exec (.pendingWaitLong id) s = .next (s.withSt (Station.raise { s.st with sup := { s.st.sup with
        waiting := s.st.sup.waiting.map fun j => if j.id = id then { j with told := true } else j } } .budgetWaitLong))) ∧
    (i.told = true → exec (.pendingWaitLong id) s = .next s))

/-- A scene above 15 is refused; a scene is put in force with the override flag set; its one circuit, dark or
FAULTED with its feedback open, is OFF and, in the scene, asks for its inrush draw, which is queued when it fits; one whose
feedback shows closed stays FAULTED. A circuit in the scene that is lit stays so; one out of it is switched off, its contactor
OPEN with a feedback check due, its live draw freed and the FREE queued, or its pending draw cancelled. -/
def Obligations.LightSceneSwitchesOn : Prop :=
  ∀ (s : State) (a : Ask) (cap : Capture) (args : List Byte), s.Asked a cap → 1 ≤ args.length →
    let n := byteAt args 0
    (15 < n → exec (.lightScene a args) s = .next (s.withSt (s.st.heard.answered a 16 .range []))) ∧
    (n ≤ 15 → (∀ x ∈ s.st.sup.circuits, x.state = .unused) →
      exec (.lightScene a args) s = .next (s.withSt (Station.answered { s.st.heard with
        sup := { s.st.sup with scene := n, override := true } } a 16 .done []))) ∧
    (1 ≤ n → n ≤ 15 → ∀ x rest l, s.st.sup.circuits = x :: rest → (∀ y ∈ rest, y.state = .unused) →
      x.state = .off ∨ (x.state = .faulted ∧ s.st.showsClosed 0 = false) →
      (s.st.circuitCfg 0).light = some l → (s.st.pg.scenes.getD n 0).getLsbD (l - 1) = true → s.st.sup.waiting = [] →
      s.st.sup.frees = [] → s.st.sup.incomplete = false → s.st.bus.mayQueue = true → s.st.bus.queue.length < 8 →
      (s.st.sup.draws.map fun e => e.amount).sum + (s.st.circuitCfg 0).inrush ≤ s.st.placingLimit →
      exec (.lightScene a args) s = .next (s.withSt (Station.answered { s.st.heard with
        sup := { s.st.sup with
          scene := n, override := true
          circuits := { x with wanted := true, state := .waitingSupply, draw := .pending } :: rest
          waiting := [{ id := 0, amount := (s.st.circuitCfg 0).inrush, hold := 150, increase := false, queued := true,
                        requested := s.st.tb.run, told := false }] }
        bus := s.st.heard.bus.append (.draw 0 (s.st.circuitCfg 0).inrush 150 .new) } a 16 .done []))) ∧
    (n ≤ 15 → ∀ x rest, s.st.sup.circuits = x :: rest → (∀ y ∈ rest, y.state = .unused) →
      let inSet := 1 ≤ n ∧ ∃ l ∈ (s.st.circuitCfg 0).light, (s.st.pg.scenes.getD n 0).getLsbD (l - 1) = true
      let put := fun (y : Circuit) => { s.st.sup with scene := n, override := true, circuits := y :: rest }
      let done := fun (b : Bus) (u : Supply) => exec (.lightScene a args) s = .next (s.withSt
        (Station.answered { s.st.heard with bus := b, sup := u } a 16 .done []))
      let off : Circuit := { x with
        state := .off, closed := false, wanted := false, startEnd := none, draw := .none, renewalDue := none
        checkDue := if x.closed = true then
          (if (s.st.circuitCfg 0).feedback then some (s.st.tb.run.plus 16384) else none) else x.checkDue }
      (x.state = .starting ∨ x.state = .on → inSet → done s.st.heard.bus (put { x with wanted := true })) ∧
      (x.state = .starting ∨ x.state = .on → ¬inSet → x.draw = .live → s.st.sup.waiting = [] →
        (∀ q ∈ s.st.bus.queue, q.frame.isDrawOf 0 = false) → s.st.bus.mayQueue = true → s.st.bus.queue.length < 8 →
        done (s.st.heard.bus.append (.free 0))
          { put off with draws := s.st.sup.draws.filter fun e => decide ¬(e.own = true ∧ e.id = 0) }) ∧
      (x.state = .waitingSupply → ¬inSet → x.draw = .pending → ∀ i, s.st.sup.waiting = [i] → i.id = 0 → i.queued = false →
        done s.st.heard.bus { put off with waiting := [] }) ∧
      (x.state = .faulted → s.st.showsClosed 0 = false → ¬inSet →
        done s.st.heard.bus (put { x with state := .off, wanted := false })) ∧
      (x.state = .faulted → s.st.showsClosed 0 = true → (x.wanted = true ↔ inSet) → done s.st.heard.bus (put x)) ∧
      (x.state = .off → ¬inSet → done s.st.heard.bus (put { x with wanted := false })))

/-- The completed DRAW of a circuit makes its own entry and closes the contactor, the circuit STARTING with its start end,
feedback check and renewal set, a FREE of the id still pending counting its 150 s from then (R171); that of a dial makes its
own entry and, with the hands 1 to 720 steps behind or unknown, the dial CATCHING_UP or SEEKING at its first pulse, its
renewal set; at the start end a steady amount at or below the inrush makes it ON at once with a decrease queued, and a higher
one is asked for against the budget, the start end standing meanwhile (the model's choice, log 60). -/
def Obligations.CircuitsComeOn : Prop :=
  (∀ (s : State) (cap : Capture) (q : QueueSlot) (c amount hold : Nat) (x : Circuit) (i : PendingDraw), s.settled →
    s.st.running = true → s.st.bus.mayQueue = true → s.st.bus.agrees → s.st.bus.current = some ⟨cap, .sending q.age⟩ →
    s.st.bus.slotAt q.age = some q → s.st.bus.heldMark = false → q.frame = .draw c amount hold .new → c < 6 →
    s.st.sup.circuits[c]? = some x → x.state = .waitingSupply → x.draw = .pending → s.st.sup.waiting = [i] → i.id = c →
    exec .attemptCompleteHeard s = .next (s.withSt { s.st with
      bus := { s.st.bus with
        current := none, wait := .afterFrame, drive := .released
        guardedWait := decide (busStateOf (s.st.bus.send - 1) s.st.bus.hear = .guarded)
        send := s.st.bus.send - 1, state := busStateOf (s.st.bus.send - 1) s.st.bus.hear
        queue := s.st.bus.queue.filter fun o => decide (o.age ≠ q.age) }
      sup := { s.st.sup with
        draws := s.st.sup.draws ++ [{ station := s.st.cfg.number, id := c, amount := amount, own := true, hold := hold,
                                      announced := some s.st.tb.run }]
        waiting := []
        frees := s.st.sup.frees.map fun f => if f.id = c then { f with announced := some s.st.tb.run } else f
        circuits := s.st.sup.circuits.set c { x with
          state := .starting, closed := true, draw := .live
          startEnd := some (s.st.tb.run.plus ((s.st.circuitCfg c).hold * 32768))
          checkDue := if (s.st.circuitCfg c).feedback then some (s.st.tb.run.plus 16384) else none
          renewalDue := some (s.st.tb.run.plus (60 * 32768)) } } })) ∧
  (∀ (s : State) (cap : Capture) (q : QueueSlot) (d amount hold : Nat) (x : Dial) (i : PendingDraw), s.settled →
    s.st.running = true → s.st.bus.mayQueue = true → s.st.bus.agrees → s.st.bus.current = some ⟨cap, .sending q.age⟩ →
    s.st.bus.slotAt q.age = some q → s.st.bus.heldMark = false → q.frame = .draw (8 + d) amount hold .new →
    s.st.dials[d]? = some x → x.state = .waitingSupply → x.draw = .pending → x.pulseEnd = none → s.st.sup.waiting = [i] →
    i.id = 8 + d →
    x.position = none ∨ (s.st.tb.valid = true ∧ ∃ p ∈ x.position, p < 1440 ∧
      let distance := (s.st.tb.civil.us / 1000000 / 30 % 1440 + 1440 - p) % 1440
      1 ≤ distance ∧ distance ≤ 720) →
    exec .attemptCompleteHeard s = .next (s.withSt { s.st with
      bus := { s.st.bus with
        current := none, wait := .afterFrame, drive := .released
        guardedWait := decide (busStateOf (s.st.bus.send - 1) s.st.bus.hear = .guarded)
        send := s.st.bus.send - 1, state := busStateOf (s.st.bus.send - 1) s.st.bus.hear
        queue := s.st.bus.queue.filter fun o => decide (o.age ≠ q.age) }
      sup := { s.st.sup with
        draws := s.st.sup.draws ++ [{ station := s.st.cfg.number, id := 8 + d, amount := amount, own := true, hold := hold,
                                      announced := some s.st.tb.run }]
        waiting := []
        frees := s.st.sup.frees.map fun f => if f.id = 8 + d then { f with announced := some s.st.tb.run } else f }
      dials := s.st.dials.set d { x with
        state := if x.position = none then .seeking else .catchingUp
        draw := .live, renewalDue := some (s.st.tb.run.plus (60 * 32768)), seeks := 0
        polarity := x.polarity.turned, position := x.position.map fun p => (p + 1) % 1440
        lastBegin := some s.st.tb.run, pulseEnd := some (s.st.tb.run.plus (msCycles (s.st.dialCfg d).width))
        beganActive := s.st.atTwelve d } })) ∧
  (∀ (s : State) (c : Nat) (x : Circuit) (d : RunTime) (e : DrawEntry), s.settled → s.st.running = true → s.st.bus.mayQueue = true →
    s.st.bus.queue.length < 8 → s.st.sup.circuits[c]? = some x → x.state = .starting → x.startEnd = some d →
    d.reached s.st.tb.run = true → (∀ k < s.st.sup.circuits.length, k ≠ c → (s.st.circuit k).state = .unused) → s.st.sup.waiting = [] →
    s.st.sup.ownEntry c = some e → s.st.sup.incomplete = false →
    let steady := (s.st.circuitCfg c).steady
    let view := (s.st.sup.draws.map fun e => e.amount).sum
    let item : PendingDraw := { id := c, amount := steady, hold := 150, increase := true, queued := true,
                                requested := s.st.tb.run, told := false }
    (steady ≤ (s.st.circuitCfg c).inrush →
      exec (.circuitStartEnd c) s = .next (s.withSt { s.st with
        sup := { s.st.sup with
          circuits := s.st.sup.circuits.set c { x with state := .on, startEnd := none }
          draws := s.st.sup.draws.map fun e => if e.own = true ∧ e.id = c then { e with amount := steady } else e }
        bus := s.st.bus.append (.draw c steady 150 .decrease) })) ∧
    ((s.st.circuitCfg c).inrush < steady → view + (steady - e.amount) ≤ s.st.placingLimit →
      exec (.circuitStartEnd c) s = .next (s.withSt { s.st with
        sup := { s.st.sup with waiting := [item] }, bus := s.st.bus.append (.draw c steady 150 (.increase false)) })) ∧
    ((s.st.circuitCfg c).inrush < steady → s.st.placingLimit < view + (steady - e.amount) →
      exec (.circuitStartEnd c) s = .next (s.withSt { s.st with sup := { s.st.sup with waiting := [{ item with queued := false }] } })))

/-- Feedback that agrees with the command ends the check; feedback that disagrees makes the circuit FAULTED, its contactor
open, with a check of that command due when it was closed, its live draw freed and the FREE queued. No check is made while it
is FAULTED; that one which falls due then is let go, and that a fault of an open contactor leaves none due, is the model's
choice (log 47). -/
def Obligations.FeedbackIsChecked : Prop :=
  ∀ (s : State) (c : Nat) (x : Circuit) (d : RunTime), s.settled → s.st.running = true → s.st.sup.circuits[c]? = some x →
    (s.st.circuitCfg c).feedback = true → x.state ≠ .unused → x.checkDue = some d →
    d.reached s.st.tb.run = true → (∀ k < s.st.sup.circuits.length, k ≠ c → (s.st.circuit k).state = .unused) → s.st.sup.waiting = [] →
    (∀ q ∈ s.st.bus.queue, q.frame.isDrawOf c = false) → s.st.bus.mayQueue = true → s.st.bus.queue.length < 8 →
    let faulted := { x with
      state := .faulted, closed := false, startEnd := none, draw := .none, renewalDue := none
      checkDue := if x.closed = true then some (s.st.tb.run.plus 16384) else none }
    (x.state = .faulted ∨ s.st.showsClosed c = x.closed →
      exec (.feedbackCheck c) s = .next (s.withSt (s.st.setCircuit c { x with checkDue := none }))) ∧
    (x.state ≠ .faulted → s.st.showsClosed c ≠ x.closed → x.draw = .none →
      exec (.feedbackCheck c) s = .next (s.withSt (s.st.setCircuit c faulted))) ∧
    (x.state ≠ .faulted → s.st.showsClosed c ≠ x.closed → x.draw = .live →
      exec (.feedbackCheck c) s = .next (s.withSt { s.st with
        sup := { s.st.sup with
          circuits := s.st.sup.circuits.set c faulted
          draws := s.st.sup.draws.filter fun e => decide ¬(e.own = true ∧ e.id = c) }
        bus := s.st.bus.append (.free c) }))

/-! ## The programme store -/

/-- The refusals in their order, each counted; a calendar slot is staged and then written, its records fresh; a dusk minute
and a scene are written whole. With a STORE in flight an index out of range is answered RANGE and all else BUSY, which is the
model's choice of order (log 17). -/
def Obligations.WriteItemWritesTheProgramme : Prop :=
  ∀ (s : State) (a : Ask) (cap : Capture) (args : List Byte), s.Asked a cap →
    let p := s.st.pg
    let n := byteAt args 1
    let part := byteAt args 0 % 16
    let contents := (args.drop 2).take 7
    let refused := fun o : ReqOutcome => s.withSt ((s.st.heard.bump .loadRefusals).answered a 5 o [])
    let taken := fun q : Programme => s.withSt (Station.answered { s.st.heard with pg := q } a 5 .done [])
    (9 ≤ args.length → byteAt args 0 / 16 = 0 →
      (95 < n → exec (.writeItemCalendar a args) s = .next (refused .range)) ∧
      (n ≤ 95 → p.storing.isSome = true → exec (.writeItemCalendar a args) s = .next (refused .busy)) ∧
      (n ≤ 95 → p.storing = none →
        (part = 0 → exec (.writeItemCalendar a args) s = .next (taken { p with staging := some ⟨a.asker, n, contents⟩ })) ∧
        (part = 1 → (∀ g ∈ p.staging, ¬(g.asker = a.asker ∧ g.slot = n)) →
          exec (.writeItemCalendar a args) s = .next (refused .state)) ∧
        (part = 1 → ∀ bytes, p.staging = some ⟨a.asker, n, bytes⟩ →
          (∀ c, slotOf (bytes ++ contents) = some c →
            exec (.writeItemCalendar a args) s = .next (taken { p with staging := none, calendar := p.calendar.set n c })) ∧
          (slotOf (bytes ++ contents) = none →
            exec (.writeItemCalendar a args) s = .next (s.withSt
              ((Station.bump { s.st.heard with pg := { p with staging := none } } .loadRefusals).answered a 5 .range [])))) ∧
        (2 ≤ part → exec (.writeItemCalendar a args) s = .next (refused .range)))) ∧
    (4 ≤ args.length → byteAt args 0 / 16 = 1 →
      (45 < n → exec (.writeItemDusk a args) s = .next (refused .range)) ∧
      (n ≤ 45 → p.storing.isSome = true → exec (.writeItemDusk a args) s = .next (refused .busy)) ∧
      (n ≤ 45 → p.storing = none → part ≠ 0 ∨ 1439 < word16 args 2 → exec (.writeItemDusk a args) s = .next (refused .range)) ∧
      (n ≤ 45 → p.storing = none → part = 0 → word16 args 2 ≤ 1439 →
        exec (.writeItemDusk a args) s = .next (taken { p with dusk := p.dusk.set n (some (word16 args 2)) }))) ∧
    (6 ≤ args.length → byteAt args 0 / 16 = 2 →
      (n = 0 ∨ 15 < n → exec (.writeItemScene a args) s = .next (refused .range)) ∧
      (1 ≤ n → n ≤ 15 → p.storing.isSome = true → exec (.writeItemScene a args) s = .next (refused .busy)) ∧
      (1 ≤ n → n ≤ 15 → p.storing = none → part ≠ 0 → exec (.writeItemScene a args) s = .next (refused .range)) ∧
      (1 ≤ n → n ≤ 15 → p.storing = none → part = 0 →
        exec (.writeItemScene a args) s = .next (taken { p with
          scenes := p.scenes.set n (BitVec.ofNat 32 (word16 args 2 * 65536 + word16 args 4)) })))

/-- The refusals in their order, each counted; a new tune takes the first empty entry and is open; closing it makes it READY,
or INCOMPLETE when notes were lost, with no own note too (log 45). -/
def Obligations.TunesAreOpenedAndClosed : Prop :=
  ∀ (s : State) (a : Ask) (cap : Capture) (args : List Byte), s.Asked a cap →
    let p := s.st.pg
    let n := byteAt args 0
    let length := word16 args 1
    let beat := word16 args 3
    let refused := fun (code : Nat) (o : ReqOutcome) => s.withSt ((s.st.heard.bump .loadRefusals).answered a code o [])
    let inRange := 1 ≤ n ∧ n ≤ 250 ∧ 1 ≤ length ∧ length ≤ 4096 ∧ 150 ≤ beat ∧ beat ≤ 2000
    let absent := ∀ t ∈ p.tunes, ∀ u ∈ t, u.number ≠ n
    (5 ≤ args.length →
      (¬inRange → exec (.openTune a args) s = .next (refused 6 .range)) ∧
      (inRange → p.storing.isSome = true → exec (.openTune a args) s = .next (refused 6 .busy)) ∧
      (inRange → p.storing = none → ¬absent → (∃ r ∈ s.st.pf.table, ∃ x ∈ r, (x.key.cls = .tune ∨ x.key.cls = .quarter) ∧
          x.key.number = n) → exec (.openTune a args) s = .next (refused 6 .state)) ∧
      (inRange → p.storing = none → absent → (∀ t ∈ p.tunes, ∃ u ∈ t, u.state ≠ .opened) →
        exec (.openTune a args) s = .next (refused 6 .full)) ∧
      (inRange → p.storing = none → absent → p.opened = none → ∀ i, p.tunes.findIdx? (fun t => t.isNone) = some i →
        exec (.openTune a args) s = .next (s.withSt (Station.answered { s.st.heard with pg := { p with
          tunes := p.tunes.set i (some { number := n, length := length, beat := beat, own := 0, received := 0,
                                         first := p.notes.length, state := .opened })
          opened := some { tune := n, lastOffset := none, loss := false } } } a 6 .done [])))) ∧
    (1 ≤ args.length →
      (p.storing.isSome = true → exec (.closeTune a args) s = .next (refused 8 .busy)) ∧
      (p.storing = none → (∀ o ∈ p.opened, o.tune ≠ n) → exec (.closeTune a args) s = .next (refused 8 .state)) ∧
      (p.storing = none → ∀ o, p.opened = some o → o.tune = n →
        exec (.closeTune a args) s = .next (s.withSt (Station.answered { s.st.heard with pg := { p with
          tunes := p.tunes.map fun t => t.map fun u =>
            if u.number = n then { u with state := if o.loss then .incomplete else .ready } else u
          opened := none } } a 8 .done []))))

/-- One note of the open tune is refused, counted as foreign, lost for want of space, or stored; of two, the second is checked
against the first, and the outcome is that of the worse. A tune absent, or that a record refers to, is not deleted; a deleted
tune's notes leave the store, the tunes behind it move down, and the open tune is open no more. That DELETE_TUNE answers BUSY
before it looks at the number is the model's choice of order (log 17). -/
def Obligations.NotesAreAddedAndDeleted : Prop :=
  ∀ (s : State) (a : Ask) (cap : Capture) (args : List Byte), s.Asked a cap →
    let p := s.st.pg
    let n := byteAt args 0
    let refused := fun (code : Nat) (o : ReqOutcome) => s.withSt ((s.st.heard.bump .loadRefusals).answered a code o [])
    (5 ≤ args.length →
      (p.storing.isSome = true → exec (.addNotes a args) s = .next (refused 7 .busy)) ∧
      (p.storing = none → (∀ o ∈ p.opened, o.tune ≠ n) → exec (.addNotes a args) s = .next (refused 7 .state)) ∧
      (args.length < 9 → p.storing = none → ∀ o, p.opened = some o → o.tune = n →
        let note := noteAt args 1
        let inRange := 1 ≤ note.bell ∧ note.bell ≤ 64 ∧ o.lastOffset.getD 0 ≤ note.offset
        let received := fun kept : Nat => p.tunes.map fun t => t.map fun u => if u.number = n then
          { u with received := if u.received < 65535 then u.received + 1 else 65535, own := u.own + kept } else u
        (¬inRange → exec (.addNotes a args) s = .next (refused 7 .range)) ∧
        (inRange → s.st.cfg.isOwn note.bell = false →
          exec (.addNotes a args) s = .next (s.withSt ((Station.bump { s.st.heard with pg := { p with
            tunes := received 0, opened := some { o with lastOffset := some note.offset } } } .foreignNotes).answered a 7 .done []))) ∧
        (inRange → s.st.cfg.isOwn note.bell = true → o.loss = true ∨ 2048 ≤ p.notes.length →
          exec (.addNotes a args) s = .next (s.withSt ((Station.bump { s.st.heard with pg := { p with
            tunes := received 0, opened := some { o with lastOffset := some note.offset, loss := true } } }
            .loadRefusals).answered a 7 .full []))) ∧
        (inRange → s.st.cfg.isOwn note.bell = true → o.loss = false → p.notes.length < 2048 →
          exec (.addNotes a args) s = .next (s.withSt (Station.answered { s.st.heard with pg := { p with
            tunes := received 1, notes := p.notes ++ [note], opened := some { o with lastOffset := some note.offset } } }
            a 7 .done [])))) ∧
      (9 ≤ args.length → p.storing = none → ∀ o, p.opened = some o → o.tune = n → o.loss = false → p.notes.length < 2047 →
        let one := noteAt args 1
        let two := noteAt args 5
        let take := fun tunes : List (Option Tune) => tunes.map fun t => t.map fun u => if u.number = n then
          { u with received := if u.received < 65535 then u.received + 1 else 65535, own := u.own + 1 } else u
        1 ≤ one.bell → one.bell ≤ 64 → o.lastOffset.getD 0 ≤ one.offset → s.st.cfg.isOwn one.bell = true →
        (two.offset < one.offset →
          exec (.addNotes a args) s = .next (s.withSt ((Station.bump { s.st.heard with pg := { p with
            tunes := take p.tunes, notes := p.notes ++ [one], opened := some { o with lastOffset := some one.offset } } }
            .loadRefusals).answered a 7 .range []))) ∧
        (1 ≤ two.bell → two.bell ≤ 64 → one.offset ≤ two.offset → s.st.cfg.isOwn two.bell = true →
          exec (.addNotes a args) s = .next (s.withSt (Station.answered { s.st.heard with pg := { p with
            tunes := take (take p.tunes), notes := p.notes ++ [one, two]
            opened := some { o with lastOffset := some two.offset } } } a 7 .done []))))) ∧
    (1 ≤ args.length →
      (p.storing.isSome = true → exec (.deleteTune a args) s = .next (refused 9 .busy)) ∧
      (p.storing = none → n = 0 ∨ 250 < n → exec (.deleteTune a args) s = .next (refused 9 .range)) ∧
      (p.storing = none → 1 ≤ n → n ≤ 250 → (∀ t ∈ p.tunes, ∀ u ∈ t, u.number ≠ n) ∨
          (∃ r ∈ s.st.pf.table, ∃ x ∈ r, (x.key.cls = .tune ∨ x.key.cls = .quarter) ∧ x.key.number = n) →
        exec (.deleteTune a args) s = .next (refused 9 .state)) ∧
      (p.storing = none → 1 ≤ n → n ≤ 250 →
        (∀ r ∈ s.st.pf.table, ∀ x ∈ r, x.key.cls = .tune ∨ x.key.cls = .quarter → x.key.number ≠ n) →
        ∀ i t, p.tunes[i]? = some (some t) → t.number = n → (∀ j < p.tunes.length, ∀ u ∈ p.tunes.getD j none, u.number = n → j = i) →
        exec (.deleteTune a args) s = .next (s.withSt (Station.answered { s.st.heard with pg := { p with
          notes := p.notes.take t.first ++ p.notes.drop (t.first + t.own)
          tunes := (p.tunes.map fun o => o.map fun u => if t.first + t.own ≤ u.first then { u with first := u.first - t.own }
            else u).set i none
          opened := if p.opened.map (·.tune) = some n then none else p.opened } } a 9 .done []))))

/-- A STORE is refused or goes in flight without an ANSWER; its completion writes each block whole with its check word and no
byte outside the blocks, and answers DONE; a failure sets its flag and answers STATE. With no STORE in flight the command
changes nothing (log 2). -/
def Obligations.StoreWritesTheBlocks : Prop :=
  (∀ (s : State) (a : Ask) (cap : Capture) (args : List Byte), s.Asked a cap →
    (s.st.pg.storing.isSome = true → exec (.store a args) s = .next (s.withSt (s.st.heard.answered a 10 .busy []))) ∧
    (s.st.pg.storing = none → s.st.pg.opened.isSome = true →
      exec (.store a args) s = .next (s.withSt (s.st.heard.answered a 10 .state []))) ∧
    (s.st.pg.storing = none → s.st.pg.opened = none →
      exec (.store a args) s = .next (s.withSt { s.st.heard with pg := { s.st.pg with
        storing := some ⟨if a.target = s.st.cfg.number then some (a.asker, a.seq) else none⟩ } }))) ∧
  (∀ (s : State) (asker seq : Nat) (failed : Option Nat) (held : List Byte), s.settled → s.memoryKept →
    s.st.pg.storing = some ⟨some (asker, seq)⟩ → s.st.pg.tunes.length = 64 → s.st.pg.notes.length ≤ 2048 →
    s.st.pg.calendar.length = 96 → s.st.pg.dusk.length = 46 → s.st.pg.scenes.length = 16 →
    let ended : Station := { s.st with pg := { s.st.pg with storing := none } }
    let answered := if failed.isSome then (ended.raise .storeFail).queued (.answer asker seq 10 .state [] false)
      else ended.queued (.answer asker seq 10 .done [] false)
    ∃ m : Memory, exec (.storeComplete failed held) s = .next { s with mem := m, st := answered } ∧
      (∀ a, a < 256 ∨ (9092 ≤ a ∧ a < 9216) ∨ (10562 ≤ a ∧ a < 10752) ∨ (10846 ≤ a ∧ a < 10880) ∨ 10942 ≤ a →
        m.read a = Memory.read s.mem a) ∧
      (failed = none →
        stationBlock.bytes m = stationBlock.bytes s.mem ∧
        tuneBlock.bytes m = s.st.pg.tuneBytes ∧ calendarBlock.bytes m = s.st.pg.calendarBytes ∧
        duskBlock.bytes m = s.st.pg.duskBytes ∧ sceneBlock.bytes m = s.st.pg.sceneBytes ∧
        tuneBlock.good m = true ∧ calendarBlock.good m = true ∧ duskBlock.good m = true ∧ sceneBlock.good m = true)) ∧
  (∀ (s : State) (failed : Option Nat) (held : List Byte), s.st.pg.storing = none → exec (.storeComplete failed held) s = .next s)

/-! ## Starts and run states -/

/-- The station enters SUPPLY_WAIT with its outputs released and its work abandoned, unless it is there already, the takeover
counting as a second boundary of the backup domain (log 9), a local second raised and not yet taken given up (log 4); a low
backup supply clears the backup-valid flag. -/
def Obligations.SupplyLossReleasesTheStation : Prop :=
  ∀ s : State, s.settled →
    let out := fun q : Sequencer => s.withSt { s.st with
      tb := { s.st.tb with
        slew := 0, backupCyc := 0, secondDue := false, backupDue := true, dialDue := none, minuteDue := none, quarterDue := none,
        hourDue := none }
      bus := { s.st.bus with current := none, drive := .released, wait := .joining }
      channels := s.st.channels.map fun c => if c.state = .striking then { c with state := .settling, pulseEnd := none } else c
      pg := { s.st.pg with storing := none }
      dials := s.st.dials.map fun d => { d with pulseEnd := none }
      sup := { s.st.sup with circuits := s.st.sup.circuits.map fun c => { c with closed := false } }
      seq := { q with state := .supplyWait, timeout := none } }
    let fallen : Sequencer := { s.st.seq with supplyGood := false, supplyFell := true }
    let held : Sequencer := { s.st.seq with resetAsserted := true }
    (s.st.seq.state ≠ .supplyWait →
      exec .supplyGoodFall s = .next (out fallen) ∧ exec .resetAssert s = .next (out held)) ∧
    (s.st.seq.state = .supplyWait →
      exec .supplyGoodFall s = .next (s.withSt { s.st with seq := fallen }) ∧
      exec .resetAssert s = .next (s.withSt { s.st with seq := held })) ∧
    exec .backupSupplyLow s = .next (s.withSt { s.st with
      seq := { s.st.seq with backupValid := false }, lines := { s.st.lines with backup := false } })

/-- The kind of start, and the state that each block takes with it: COLD clears what the backup domain holds, RESTORE and
WARM keep it, and the correction of the first second is formed from the rate kept. -/
def Obligations.StartMomentSetsTheBlocks : Prop :=
  ∀ s : State, s.settled → s.st.seq.state = .supplyWait →
    let kind : StartKind := if s.st.seq.supplyFell then (if s.st.seq.backupValid then .restore else .cold) else .warm
    ∃ t : Station, exec .startMoment s = .next (s.withSt t) ∧
      t.seq = { state := .checking, supplyGood := true, resetAsserted := false, supplyFell := false,
                backupValid := s.st.seq.backupValid, timeout := none, kind := kind } ∧
      t.tb.run = ⟨0, 0⟩ ∧ t.tb.slew = 0 ∧
      (kind = .cold → t.tb.ticks = 0 ∧ t.tb.valid = false ∧ t.tb.rate = 0 ∧ t.tb.rho = 0 ∧ t.tb.offset = 0 ∧
        t.dials = s.st.dials.map fun _ => Dial.cold) ∧
      (kind ≠ .cold → t.tb.ticks = s.st.tb.ticks ∧ t.tb.valid = s.st.tb.valid ∧ t.tb.rate = s.st.tb.rate ∧
        t.tb.rho = (s.st.tb.rate * 512 + s.st.tb.rho).tmod 1000 ∧ t.tb.offset = s.st.tb.offset ∧
        32768 * t.tb.q + (t.tb.r : Int) = (s.st.tb.rate * 512 + s.st.tb.rho).tdiv 1000 ∧
        t.dials = s.st.dials.map fun d => { Dial.cold with position := d.position, polarity := d.polarity }) ∧
      t.ag = Agreement.cold ∧ t.bus = Bus.cold ∧ t.channels = List.replicate 8 { Channel.cold with lastLaunch := some ⟨0, 0⟩ } ∧
      t.pf = Performances.cold ∧ t.pg = Programme.cold ∧ t.sup = Supply.cold ∧ t.panel.summary = 0 ∧
      t.panel.counters = List.replicate 13 0 ∧ t.cfg = s.st.cfg ∧ t.lines = s.st.lines

/-- At the end of CHECKING sensors and feedback inputs set the channels and circuits (all of them, until LOADING says which
are used, log 13), and a fault of a channel that the block in the memory uses sets HAMMER_FAULT; a bad station block leaves
the station UNCONFIGURED, and a good one, each field in its range, brings it into LISTENING for three mark periods with the
programme read, a channel that names no bell, a circuit that names no light and a dial not used UNUSED (that a dial is used by
any byte but 0 is the model's choice, log 34), of two that name one bell or light the higher-numbered, the other dials
HOLDING, a circuit without feedback OFF, and a used channel that is FAULTED flagged; from blocks that a STORE has written the
programme is read back, its firings fresh and no note foreign. -/
def Obligations.CheckingAndLoadingEnd : Prop :=
  (∀ s : State, s.settled → s.st.seq.state = .checking → 200 * 32768 ≤ (RunTime.mk 0 0).elapsed s.st.tb.run * 1000 →
    ∃ t : Station, exec .checkingEnd s = .next (s.withSt t) ∧
      t = { s.st with
        channels := t.channels, sup := { s.st.sup with circuits := t.sup.circuits }
        seq := { s.st.seq with state := .loading, backupValid := s.st.seq.backupValid || s.st.lines.backup }
        panel := t.panel } ∧
      (let fails := ∃ n k, n < s.st.channels.length ∧ ((readStationBlock s.mem).getD s.st.cfg).channels[n]? = some k ∧
         k.bell.isSome = true ∧ s.st.showsRest n = false
       (fails → t.panel = s.st.panel.raise .hammerFault) ∧ (¬fails → t.panel = s.st.panel)) ∧
      (∀ (n : Nat) (c : Channel), s.st.channels[n]? = some c → t.channels[n]? = some (if s.st.showsRest n then
        { c with state := .ready, restTaken := true, rested := true, lostAt := none } else
        { c with state := .faulted, holder := .none, openPhrase := false, isProtected := false, queue := [], waiting := none })) ∧
      (∀ (n : Nat) (c : Circuit), s.st.sup.circuits[n]? = some c → t.sup.circuits[n]? =
        some { c with state := if s.st.showsClosed n then .faulted else .off })) ∧
  (∀ (s : State) (answers : Bool), s.settled → s.st.seq.state = .loading → answers = false ∨ readStationBlock s.mem = none →
    exec (.loadingEnd answers []) s = .next (s.withSt { s.st with seq := { s.st.seq with state := .unconfigured } })) ∧
  (∀ (s : State) (b : StationBlock), s.settled → s.st.seq.state = .loading → readStationBlock s.mem = some b →
    ∃ t : Station, exec (.loadingEnd true []) s = .next (s.withSt t) ∧ t.cfg = b ∧ t.pg = (loadProgramme b s.mem).programme ∧
      t.seq = { s.st.seq with
        state := .listening, timeout := some (s.st.tb.run.plus (3 * b.markPeriod * 32768)) } ∧
      t.ag.refState = (if b.reference then .searching else .absent) ∧ t.bus.wait = .joining ∧ t.bus.current = none ∧
      ((loadProgramme b s.mem).invalid = true → t.panel.flag .progInvalid = true) ∧ t.tb = s.st.tb ∧ t.lines = s.st.lines ∧
      (∀ (i : Nat) (c : Channel) (k : ChannelConfig), s.st.channels[i]? = some c → b.channels[i]? = some k →
        t.channels[i]? = some (if k.bell = none then { Channel.cold with lastLaunch := c.lastLaunch } else c) ∧
        (k.bell ≠ none → c.state = .faulted → t.panel.flag .hammerFault = true)) ∧
      (∀ (i : Nat) (x : Dial) (k : DialConfig), s.st.dials[i]? = some x → b.dials[i]? = some k →
        t.dials[i]? = some { x with state := if k.used = true then .holding else .unused }) ∧
      (∀ (i : Nat) (c : Circuit) (k : CircuitConfig), s.st.sup.circuits[i]? = some c → b.circuits[i]? = some k →
        t.sup.circuits[i]? = some (if k.light = none then Circuit.cold else if k.feedback = true then c
          else { c with state := .off }))) ∧
  (∀ (m : Memory) (b : StationBlock), readStationBlock m = some b →
    stationBlock.good m = true ∧ b.number ≤ 14 ∧ b.number = (m.read 0).toNat ∧ (b.bitRate = 10 ∨ b.bitRate = 20 ∨ b.bitRate = 50) ∧
      (b.markPeriod = 8 ∨ b.markPeriod = 16 ∨ b.markPeriod = 32) ∧ 1 ≤ b.hammerSlots ∧ b.hammerSlots ≤ 8 ∧ 500 ≤ b.cueLead ∧
      b.cueLead ≤ 5000 ∧ 1500 ≤ b.hourInterval ∧ b.hourInterval ≤ 6000 ∧ 1 ≤ b.velocity ∧ b.velocity ≤ 4 ∧ 1 ≤ b.budget ∧
      b.budget ≤ 2000 ∧ b.channels.length = 8 ∧ b.dials.length = 4 ∧ b.circuits.length = 6 ∧
      (∀ n ∈ b.hourBell, 1 ≤ n ∧ n ≤ 64) ∧
      (∀ k ∈ b.channels, (∀ n ∈ k.bell, 1 ≤ n ∧ n ≤ 64) ∧ 10 ≤ k.lead ∧ k.lead ≤ 400 ∧ 10 ≤ k.width1 ∧ k.width1 ≤ 150 ∧
        10 ≤ k.width2 ∧ k.width2 ≤ 150 ∧ 10 ≤ k.width3 ∧ k.width3 ≤ 150 ∧ 10 ≤ k.width4 ∧ k.width4 ≤ 150 ∧
        100 ≤ k.interval ∧ k.interval ≤ 3000) ∧
      (∀ d ∈ b.dials, 100 ≤ d.width ∧ d.width ≤ 1000 ∧ 1 ≤ d.interval ∧ d.interval ≤ 10 ∧ 1 ≤ d.current ∧ d.current ≤ 255) ∧
      (∀ c ∈ b.circuits, (∀ n ∈ c.light, 1 ≤ n ∧ n ≤ 32) ∧ 1 ≤ c.inrush ∧ c.inrush ≤ 255 ∧ 1 ≤ c.hold ∧ c.hold ≤ 10 ∧
        1 ≤ c.steady ∧ c.steady ≤ 255) ∧
      (let named := fun (base step hi i : Nat) => min hi (m.read (base + step * i)).toNat
       (∀ i k, b.channels[i]? = some k → (k.bell = none ∨ k.bell = some (named 11 9 64 i)) ∧
         (k.bell = none ↔ named 11 9 64 i = 0 ∨ ∃ j, j < i ∧ named 11 9 64 j = named 11 9 64 i)) ∧
       (∀ i k, b.circuits[i]? = some k → (k.light = none ∨ k.light = some (named 103 5 32 i)) ∧
         (k.light = none ↔ named 103 5 32 i = 0 ∨ ∃ j, j < i ∧ named 103 5 32 j = named 103 5 32 i)) ∧
       (∀ i k, b.dials[i]? = some k → (k.used = true ↔ m.read (83 + 5 * i) ≠ 0)))) ∧
  (∀ (b : StationBlock) (m : Memory) (p : Programme) (i : Nat) (u : Tune), m.wf = true → i < 64 →
    p.tunes = (List.replicate 64 none).set i (some u) → 1 ≤ u.number → u.number ≤ 250 → 1 ≤ u.length → u.length ≤ 4096 →
    150 ≤ u.beat → u.beat ≤ 2000 → u.first = 0 → u.own = p.notes.length → p.notes.length ≤ 2048 → u.state ≠ .opened →
    (∀ n ∈ p.notes, n.offset < 65536 ∧ n.bell < 256 ∧ 1 ≤ n.velocity ∧ n.velocity ≤ 4 ∧ b.isOwn n.bell = true) →
    offsetsRise p.notes = true → p.calendar.length = 96 →
    (∀ c ∈ p.calendar, ∀ e ∈ c, entryOf e.entry.bytes = some e.entry) → p.dusk.length = 46 →
    (∀ d ∈ p.dusk, ∃ minute, d = some minute ∧ minute < 1440) → p.scenes.length = 16 → p.scenes.getD 0 0 = 0 →
    loadProgramme b (writeBlocks m p.blocks) =
      { programme := { Programme.cold with
          tunes := (List.replicate 64 none).set i (some { u with received := u.own })
          notes := p.notes
          calendar := p.calendar.map fun c => c.map fun e => e.entry.slot
          dusk := p.dusk, scenes := p.scenes }
        invalid := false, foreign := 0 })

/-- A station that hears no peer enters RUNNING without a source, a source taken in LISTENING given up (log 33), begins its
quiet period and arms the mark moment that remains in the second in progress, of run time with the time unset; with its time
valid and an empty calendar it is in holdover with the flag, marks the scan and puts scene 0 in force, and makes up an hour 300
s or less back, or counts it as suppressed. The own entry of a live draw is announced again, or flagged where the queue refuses
it, and the renewals of dials and circuits fall due 60 s on. A dial holds with the time unset, is IDLE at its target, and with
its position unknown asks for its seek's draw, under half the budget. -/
def Obligations.ListeningTimesOut : Prop :=
  ∀ (s : State) (d : RunTime), s.settled → s.st.seq.state = .listening → s.st.seq.timeout = some d →
    d.reached s.st.tb.run = true → (∀ p ∈ s.st.ag.peers, p = none) →
    let quiet := some (s.st.tb.run.plus (150 * 32768))
    let renewed := some (s.st.tb.run.plus (60 * 32768))
    let alone : Agreement := if s.st.ag.followed = none then s.st.ag
      else { s.st.ag with followed := none, rateRem := 0, prevMark := none }
    let unset : Station := { s.st with
      seq := { s.st.seq with state := .running, timeout := none }
      ag := { alone with armed := match s.st.cfg.markInRun s.st.tb.run.sec with
        | none => none
        | some m => if s.st.tb.run.cyc < m.cyc then some (.run m) else none }
      sup := { s.st.sup with quietEnd := quiet } }
    let holdover : Station := { s.st with
      seq := { s.st.seq with state := .running, timeout := none }
      ag := { alone with armed := match s.st.cfg.markIn s.st.tb.day (s.st.tb.us / 1000000) with
        | none => none
        | some m => if 0 < m.diff s.st.tb.now then some (.tower m) else none }
      pg := { s.st.pg with scanMark := some (s.st.tb.day, s.st.tb.us / 60000000) }
      sup := { s.st.sup with quietEnd := quiet, scene := 0 }
      panel := s.st.panel.raise .holdover }
    let civil := s.st.tb.now.civil s.st.tb.offset
    let hour := civil.us / 3600000000
    let tower := (TowerTime.mk civil.day (hour * 3600000000)).plus (-((s.st.tb.offset * 60000000 : Nat) : Int))
    let key : Key := ⟨.hour, 0, 0, tower.day, tower.us / 60000000⟩
    let idle := s.st.tb.valid = true ∧ s.st.ag.refState ≠ .locked ∧ s.st.pg.scanMark = none ∧
      s.st.pg.calendar = List.replicate 96 none ∧ s.st.sup.override = false
    let noHour := (∀ bell ∈ s.st.cfg.hourBell, s.st.cfg.isOwn bell = false) ∨ s.st.pf.silenced = true ∨
      300000000 < civil.us - hour * 3600000000
    ((∀ x ∈ s.st.dials, x.state = .unused ∧ x.draw = .none) → (∀ x ∈ s.st.sup.circuits, x.state = .unused ∧ x.draw = .none) →
      (∀ e ∈ s.st.sup.draws, e.own = false) →
      (s.st.tb.valid = false → exec .listeningTimeout s = .next (s.withSt unset)) ∧
      (idle → noHour → exec .listeningTimeout s = .next (s.withSt holdover)) ∧
      (idle → ∀ bell, s.st.cfg.hourBell = some bell → s.st.cfg.isOwn bell = true → s.st.pf.silenced = false →
        civil.us - hour * 3600000000 ≤ 300000000 →
        ((∃ t ∈ s.st.pf.lastHour, t.elapsed s.st.tb.run < 3000 * 32768) ∨ s.st.record 0 ≠ none ∨ s.st.pf.isRecent key = true →
          exec .listeningTimeout s = .next (s.withSt (holdover.bump .suppressedHours))) ∧
        ((∀ t ∈ s.st.pf.lastHour, 3000 * 32768 ≤ t.elapsed s.st.tb.run) → s.st.record 0 = none → s.st.pf.isRecent key = false →
          s.st.pf.chimeRecent key.day key.minute = false →
          ∃ r : Record, exec .listeningTimeout s = .next (s.withSt (holdover.setRecord 0 (some r))) ∧
            r.key = key ∧ r.state = .waiting ∧ r.length = (hour + 11) % 12 + 1 ∧
            r.deadline1 = some (s.st.tb.run.plus (msCycles (s.st.cfg.cueLead + 1000))) ∧
            r.deadline2 = some (s.st.tb.run.plus (60 * 32768))))) ∧
    (s.st.tb.valid = false → (∀ x ∈ s.st.dials, x.state = .unused ∨ x.state = .faulted ∨ x.pulseEnd ≠ none) →
      ∀ e, (s.st.sup.draws.filter fun o => o.own) = [e] → (∀ q ∈ s.st.bus.queue, q.frame.isDrawOf e.id = false) →
      let entered : Station := { unset with
        dials := s.st.dials.map fun x => if x.draw = .live then { x with renewalDue := renewed } else x
        sup := { unset.sup with
          circuits := s.st.sup.circuits.map fun c => if c.draw = .live then { c with renewalDue := renewed } else c } }
      (s.st.bus.mayQueue = true → s.st.bus.queue.length < 8 →
        exec .listeningTimeout s = .next (s.withSt { entered with bus := s.st.bus.append (.draw e.id e.amount 150 .renewal) })) ∧
      (s.st.bus.mayQueue = false ∨ 8 ≤ s.st.bus.queue.length →
        exec .listeningTimeout s = .next (s.withSt (entered.raise .budgetUnannounced)))) ∧
    (∀ x rest, s.st.dials = x :: rest → (∀ y ∈ rest, y.state = .unused ∧ y.draw = .none) →
      (∀ c ∈ s.st.sup.circuits, c.state = .unused ∧ c.draw = .none) → (∀ e ∈ s.st.sup.draws, e.own = false) →
      x.state ≠ .unused → x.state ≠ .faulted → x.pulseEnd = none → x.draw = .none →
      (s.st.tb.valid = false → x.position ≠ none →
        exec .listeningTimeout s = .next (s.withSt { unset with dials := { x with state := .holding, renewalDue := none } :: rest })) ∧
      (idle → noHour → x.position = some (civil.us / 1000000 / 30 % 1440) →
        exec .listeningTimeout s = .next (s.withSt { holdover with dials := { x with state := .idle, renewalDue := none } :: rest })) ∧
      (s.st.tb.valid = false → x.position = none → s.st.sup.waiting = [] → s.st.sup.frees = [] → s.st.sup.incomplete = false →
        let amount := (s.st.dialCfg 0).current
        let asked := fun queued : Bool => { unset with
          dials := { x with state := .waitingSupply, draw := .pending } :: rest
          sup := { unset.sup with
            waiting := [{ id := 8, amount := amount, hold := 150, increase := false, queued := queued, requested := s.st.tb.run,
                          told := false }] } }
        ((s.st.sup.draws.map fun e => e.amount).sum + amount ≤ s.st.cfg.budget / 2 → s.st.bus.mayQueue = true →
          s.st.bus.queue.length < 8 →
          exec .listeningTimeout s = .next (s.withSt { asked true with bus := s.st.bus.append (.draw 8 amount 150 .new) })) ∧
        (s.st.cfg.budget / 2 < (s.st.sup.draws.map fun e => e.amount).sum + amount →
          exec .listeningTimeout s = .next (s.withSt (asked false)))))

/-- A restart keeps times, rate, station block, programme, dials and lit circuits, empties the rest, and enters LISTENING;
outside LISTENING and RUNNING the line is not taken; a RESTART to the station is made with the report of its ANSWER, or at
once when the ANSWER is refused. -/
def Obligations.RestartEntersListening : Prop :=
  ∀ s : State, s.settled →
    let restarted : Station := { s.st with
      tb := { s.st.tb with dialDue := none, minuteDue := none, quarterDue := none, hourDue := none }
      ag := { Agreement.cold with
        refState := s.st.ag.refState, candidate := s.st.ag.candidate, lastMinute := s.st.ag.lastMinute, message := s.st.ag.message }
      bus := Bus.cold
      channels := s.st.channels.map fun c =>
        { c with holder := .none, openPhrase := false, isProtected := false, queue := [], waiting := none }
      pf := { Performances.cold with lastHour := s.st.pf.lastHour }
      pg := { s.st.pg with storing := none, staging := none }
      sup := { s.st.sup with
        draws := s.st.sup.draws.filter fun e => e.own
        waiting := s.st.sup.waiting.map fun i => { i with queued := false }, incomplete := false, lastOverflow := none }
      seq := { s.st.seq with
        state := .listening
        timeout := some (s.st.tb.run.plus ((if s.st.tb.valid then 1 else 3) * s.st.cfg.markPeriod * 32768)) } }
    (s.st.inService = true → s.st.bus.queue = [] → exec .restartLine s = .next (s.withSt restarted)) ∧
    (s.st.inService = false → exec .restartLine s = .next s) ∧
    (∀ a cap args, s.Asked a cap →
      (a.target ≠ s.st.cfg.number → s.st.bus.queue = [] → exec (.restart a args) s = .next (s.withSt restarted)) ∧
      (a.target = s.st.cfg.number → s.st.bus.mayQueue = false → s.st.bus.queue = [] →
        exec (.restart a args) s = .next (s.withSt restarted)) ∧
      (a.target = s.st.cfg.number → s.st.bus.mayQueue = true → s.st.bus.queue.length < 8 →
        exec (.restart a args) s = .next (s.withSt (s.st.heard.queued (.answer a.asker a.seq 20 .done [] true))))) ∧
    (∀ cap q asker seq o data, s.st.running = true → s.st.bus.mayQueue = true → s.st.bus.agrees →
      s.st.bus.current = some ⟨cap, .sending q.age⟩ → s.st.bus.queue = [q] → s.st.bus.heldMark = false →
      q.frame = .answer asker seq 20 o data true → exec .attemptCompleteHeard s = .next (s.withSt restarted))

/-! ## The panel service -/

/-- Every STATUS page, the READ_TIME and the CLEAR_SUMMARY answer as they stand when the request is taken, with the codes of
their states and the bits of their flags; a page that is not there is answered RANGE, CLEAR_SUMMARY clears the summary, and
an item that is empty or absent is answered with one byte of all ones. -/
def Obligations.ReadsAnswerTheState : Prop :=
  (∀ (s : State) (a : Ask) (cap : Capture) (args : List Byte), s.Asked a cap →
    let h := s.st.heard
    (1 ≤ args.length → byteAt args 0 = 0 → exec (.status a args) s = .next (s.withSt (h.answered a 1 .done
      (bytesOf 1 (h.seq.state.code * 16 + h.bus.state.code) ++ bytesOf 2 h.bus.send ++ bytesOf 1 h.bus.hear ++
        bytesOf 1 (h.stratum * 32 + h.ag.refState.code * 8) ++ bytesOf 1 (h.ag.followed.getD 15) ++
        bytesOf 1 ((if h.tb.valid then 8 else 0) + (if h.pf.silenced then 4 else 0) + (if h.seq.backupValid then 2 else 0) +
          (if h.alarm then 1 else 0)))))) ∧
    (1 ≤ args.length → byteAt args 0 = 1 →
      exec (.status a args) s = .next (s.withSt (h.answered a 1 .done (bytesOf 3 h.panel.summary.toNat)))) ∧
    (1 ≤ args.length → byteAt args 0 = 2 → exec (.status a args) s = .next (s.withSt (h.answered a 1 .done
      (bytesOf 2 (h.sup.draws.map fun e => e.amount).sum ++ bytesOf 1 h.sup.scene ++
        bytesOf 1 ((if h.sup.override then 4 else 0) + (if h.sup.incomplete then 2 else 0) +
          (if h.sup.quietEnd.isSome then 1 else 0)) ++ bytesOf 1 (h.channels.countP fun c => decide (c.state = .striking)))))) ∧
    (args = [] ∨ 2 < byteAt args 0 → exec (.status a args) s = .next (s.withSt (h.answered a 1 .range []))) ∧
    exec (.readTime a args) s = .next (s.withSt (h.answered a 2 .done
      (bytesOf 2 h.tb.day ++ bytesOf 5 h.tb.us ++ bytesOf 1 h.tb.offset))) ∧
    exec (.clearSummary a args) s = .next (s.withSt (Station.answered { h with panel := { h.panel with summary := 0 } } a 19 .done
      (bytesOf 3 h.panel.summary.toNat))) ∧
    (4 ≤ args.length → byteAt args 0 ≠ 8 → h.item (byteAt args 0) (word16 args 1) = some none → byteAt args 3 = 0 →
      exec (.readItem a args) s = .next (s.withSt (h.answered a 4 .done [255]))) ∧
    (5 ≤ args.length → byteAt args 0 = 8 → h.noteItem (byteAt args 1) (word16 args 2) = some none → byteAt args 4 = 0 →
      exec (.readItem a args) s = .next (s.withSt (h.answered a 4 .done [255])))) ∧
  [RunState.supplyWait, .checking, .loading, .unconfigured, .listening, .running].map RunState.code = List.range 6 ∧
  [BusState.active, .guarded, .mute, .duplicate].map BusState.code = List.range 4 ∧
  [RefState.absent, .searching, .locked].map RefState.code = List.range 3 ∧
  [Anomaly.timeStep, .rateLimit, .refLost, .holdover, .lateDrop, .hammerFault, .tableFull, .dialSlip, .dialSensorFault,
    .budgetWaitLong, .budgetUnannounced, .viewIncomplete, .busGuarded, .busMute, .duplicateStation, .progInvalid,
    .storeFail].map Anomaly.bit = List.range 17 ∧
  (∀ (p : Panel) (f : Anomaly) (k : Nat), (p.raise f).summary.getLsbD k = (p.summary.getLsbD k || decide (k = f.bit)))

/-- Every table of READ_ITEM: the bytes of its items, field by field in the order of the rules that define them (log 16),
eight to a part; counters, dusk minutes, scenes and notes in one part; an entry that is not in use is one byte of ones. A
table, index or part that is not there is answered RANGE, and so are arguments too short; an unknown code is answered UNKNOWN
with its code. The codes of states, marks, draws, origins, outcomes and phrases count as their rules list them, with the
choices of log 16. -/
def Obligations.ItemsAreRead : Prop :=
  (∀ (s : State) (a : Ask) (cap : Capture) (args : List Byte), s.Asked a cap →
    let table := byteAt args 0
    let i := word16 args 1
    let part := byteAt args 3
    let answer := fun (o : ReqOutcome) (data : List Byte) => s.withSt (s.st.heard.answered a 4 o data)
    (args.length < 4 → exec (.readItem a args) s = .next (answer .range [])) ∧
    (4 ≤ args.length →
      (12 < table → exec (.readItem a args) s = .next (answer .range [])) ∧
      (table = 12 → i ≤ 12 → part = 0 →
        exec (.readItem a args) s = .next (answer .done (bytesOf 2 (s.st.panel.counters.getD i 0)))) ∧
      (table = 12 → 12 < i ∨ part ≠ 0 → exec (.readItem a args) s = .next (answer .range [])) ∧
      (table = 11 → i ≤ 15 → part = 0 → exec (.readItem a args) s = .next (answer .done
        (bytesOf 4 (if i = 0 then 0 else (s.st.pg.scenes.getD i 0).toNat)))) ∧
      (table = 11 → 15 < i ∨ part ≠ 0 → exec (.readItem a args) s = .next (answer .range [])) ∧
      (table = 10 → i ≤ 45 → part = 0 → exec (.readItem a args) s = .next (answer .done
        (match s.st.pg.dusk.getD i none with
          | none => [255]
          | some m => bytesOf 2 m))) ∧
      (table = 10 → 45 < i ∨ part ≠ 0 → exec (.readItem a args) s = .next (answer .range [])) ∧
      (table ≠ 8 →
        (s.st.heard.item table i = none → exec (.readItem a args) s = .next (answer .range [])) ∧
        (s.st.heard.item table i = some none →
          exec (.readItem a args) s = .next (if part = 0 then answer .done [255] else answer .range [])) ∧
        (∀ bytes, s.st.heard.item table i = some (some bytes) →
          (8 * part < bytes.length → exec (.readItem a args) s = .next (answer .done ((bytes.drop (8 * part)).take 8))) ∧
          (bytes.length ≤ 8 * part → exec (.readItem a args) s = .next (answer .range []))))) ∧
    (table = 8 → args.length < 5 → exec (.readItem a args) s = .next (answer .range [])) ∧
    (table = 8 → 5 ≤ args.length →
      let tune := byteAt args 1
      let position := word16 args 2
      (tune = 0 ∨ 250 < tune ∨ 2048 ≤ position ∨ byteAt args 4 ≠ 0 → exec (.readItem a args) s = .next (answer .range [])) ∧
      (1 ≤ tune → tune ≤ 250 → position < 2048 → byteAt args 4 = 0 → exec (.readItem a args) s = .next (answer .done
        (match s.st.pg.noteOf tune position with
          | none => [255]
          | some n => bytesOf 2 n.offset ++ bytesOf 1 n.bell ++ bytesOf 1 (n.phrase.code * 4 + (n.velocity - 1)))))) ∧
    (∀ code, exec (.unknownRequest a code args) s = .next (s.withSt (s.st.heard.answered a code .unknown [])))) ∧
  (∀ (h : Station) (i : Nat),
    let flag := fun b : Bool => bytesOf 1 (if b then 1 else 0)
    let number := fun (k : Nat) (n : Option Nat) => match n with
      | none => List.replicate k (255 : Byte)
      | some n => bytesOf k n
    let run := fun t : Option RunTime => match t with
      | none => List.replicate 6 (255 : Byte)
      | some t => bytesOf 4 t.sec ++ bytesOf 2 t.cyc
    let tower := fun t : TowerTime => bytesOf 2 t.day ++ bytesOf 5 t.us
    let strike := fun e : StrikeEntry => tower e.target ++ bytesOf 1 e.owner.code ++ bytesOf 1 e.velocity ++
      bytesOf 1 e.phrase.code ++ bytesOf 1 e.late.code
    let holder := fun c : Channel => match c.holder with
      | .none => [(255 : Byte), 255]
      | .perf slot priority => bytesOf 1 slot ++ bytesOf 1 priority
      | .panel => bytesOf 1 6 ++ bytesOf 1 4
    let waiting := fun c : Channel => match c.waiting with
      | none => List.replicate 13 (255 : Byte)
      | some w => strike w.note ++ bytesOf 1 w.slot ++ bytesOf 1 w.priority
    h.item 0 i = (if i < 15 then some ((h.ag.peers.getD i none).map fun p =>
      bytesOf 1 p.stratum ++ number 1 p.followed ++ flag p.valid ++ flag p.locked ++ flag p.stepped ++ run (some p.markRun) ++
        signedBytes 8 p.theta) else none) ∧
    (i < 6 → h.item 1 i = some ((h.pf.table.getD i none).map fun r =>
      r.key.bytes 0 ++ bytesOf 1 r.state.code ++ (if r.state = .waiting then List.replicate 7 255 else tower r.start) ++
        flag r.hasPart ++ bytesOf 1 r.origin.code ++ bytesOf 1 r.frameState.code ++ bytesOf 1 r.entriesOut ++
        r.marks.flatMap fun m => bytesOf 1 m.code)) ∧
    (6 ≤ i → h.item 1 i = (if i < 14 then some ((h.pf.recent[i - 6]?).map fun k =>
      k.key.bytes 0 ++ bytesOf 1 k.outcome.code ++ run (some (RunTime.ofCycles (k.run.elapsed h.tb.run)))) else none)) ∧
    h.item 2 i = (if i < 8 then
      (let k := h.channelCfg i
       let c := h.channel i
       some (some (number 1 k.bell ++ bytesOf 2 k.lead ++ bytesOf 1 k.width1 ++ bytesOf 1 k.width2 ++ bytesOf 1 k.width3 ++
         bytesOf 1 k.width4 ++ bytesOf 2 k.interval ++ bytesOf 1 c.state.code ++ run c.lastLaunch ++ holder c ++ waiting c ++
         flag c.isProtected ++ flag c.openPhrase))) else none) ∧
    h.item 3 i = (if i / 256 < 8 ∧ i % 256 < 12 then some (((h.channel (i / 256)).queue[i % 256]?).map strike) else none) ∧
    h.item 4 i = (if i < 4 then
      (let k := h.dialCfg i
       let d := h.dial i
       some (some (flag k.used ++ bytesOf 2 k.width ++ bytesOf 1 k.interval ++ bytesOf 1 k.current ++ bytesOf 1 d.state.code ++
         number 2 d.position ++ bytesOf 1 d.polarity.code ++ bytesOf 1 d.misses ++ bytesOf 2 d.seeks ++ run d.lastBegin ++
         run d.pulseEnd ++ bytesOf 1 d.draw.code ++ run d.renewalDue))) else none) ∧
    h.item 5 i = (if i < 6 then
      (let k := h.circuitCfg i
       let c := h.circuit i
       some (some (number 1 k.light ++ bytesOf 1 k.inrush ++ bytesOf 1 k.hold ++ bytesOf 1 k.steady ++ flag k.feedback ++
         bytesOf 1 c.state.code ++ flag c.closed ++ flag c.wanted ++ run c.startEnd ++ run c.checkDue ++ bytesOf 1 c.draw.code ++
         run c.renewalDue))) else none) ∧
    h.item 6 i = (if i < 48 then some ((h.sup.draws[i]?).map fun e =>
      bytesOf 1 e.station ++ bytesOf 1 e.id ++ bytesOf 1 e.amount ++ bytesOf 1 (if e.own then 0 else 1) ++ bytesOf 1 e.hold ++
        run e.announced ++ run (if e.own then none else e.announced.map fun t =>
          RunTime.ofCycles (h.tb.run.elapsed (t.plus (e.hold * 32768))))) else none) ∧
    h.item 7 i = (if i < 64 then some ((h.pg.tunes.getD i none).map fun t =>
      bytesOf 1 t.number ++ bytesOf 2 t.length ++ bytesOf 2 t.beat ++ bytesOf 2 t.own ++ bytesOf 2 t.first ++ bytesOf 1 t.state.code ++
        bytesOf 2 t.received) else none) ∧
    h.item 9 i = (if i < 96 then some ((h.pg.calendar.getD i none).map fun c =>
      c.entry.bytes ++ c.fired.flatMap fun f => match f with
        | none => List.replicate 8 255
        | some l => run (some l.run) ++ bytesOf 2 l.minute) else none)) ∧
  ([PerfState.waiting, .cued, .playing, .ending].map PerfState.code = List.range 4 ∧
   [ChannelState.ready, .striking, .settling, .faulted, .unused].map ChannelState.code = List.range 5 ∧
   [DialState.idle, .pulsing, .catchingUp, .waitingSupply, .holding, .seeking, .faulted, .unused].map DialState.code = List.range 8 ∧
   [CircuitState.off, .waitingSupply, .starting, .on, .faulted, .unused].map CircuitState.code = List.range 6 ∧
   [DrawState.none, .pending, .live].map DrawState.code = [255, 1, 2] ∧
   (∀ b, [BellMark.none, .held, .claimed b, .displaced, .faulted].map BellMark.code = [255, 0, 1, 2, 3]) ∧
   [Origin.localCue, .heard].map Origin.code = List.range 2 ∧
   [FrameState.none, .queued, .heard, .undelivered].map FrameState.code = List.range 4 ∧
   [KeyOutcome.ended, .aborted, .haltedBeforeCue].map KeyOutcome.code = List.range 3 ∧
   [TuneState.opened, .ready, .incomplete].map TuneState.code = List.range 3 ∧
   [LateClass.hour, .toll, .quarter, .tune, .panel].map LateClass.code = List.range 5 ∧
   [Phrase.none, .start, .inside, .ends].map Phrase.code = List.range 4 ∧
   [Polarity.positive, .negative].map Polarity.code = List.range 2 ∧
   (∀ n, (Owner.slot n).code = n) ∧ Owner.panel.code = 6)

/-- The alarm output is asserted while a standing condition holds in a run state in which it is taken, and at no other time,
whatever the anomaly summary. -/
def Obligations.AlarmFollowsTheConditions : Prop :=
  ∀ s : Station,
    (s.alarm = true ↔
      (s.seq.state = .running ∧
        ((∃ c ∈ s.channels, c.state = .faulted) ∨ (∃ d ∈ s.dials, d.state = .faulted) ∨ (∃ c ∈ s.sup.circuits, c.state = .faulted) ∨
          s.bus.state = .mute ∨ s.bus.state = .duplicate ∨ s.tb.valid = false)) ∨
      (s.seq.state = .listening ∧ s.bus.state = .duplicate) ∨ s.seq.state = .unconfigured) ∧
    ∀ p : Panel, ({ s with panel := p } : Station).alarm = s.alarm
end

