-- ==== Sys2Proof/Laws/Memory.lean ====
section
/-! SUPPORT. Every operation on the configuration memory keeps its canonical form, and the memory at reset has it. -/

namespace Sys2Proof.Machine

theorem Memory.wfFrom_cons {lo a : Nat} {v : Byte} {rest : Memory} :
    Memory.wfFrom lo ((a, v) :: rest) = true ↔ lo ≤ a ∧ v ≠ Memory.unwritten ∧ Memory.wfFrom (a + 1) rest = true := by
  simp [Memory.wfFrom, and_assoc]

/-- A form above a bound is one above every lower bound. -/
theorem Memory.wfFrom_mono {lo hi : Nat} {m : Memory} (h : lo ≤ hi) (w : Memory.wfFrom hi m = true) : Memory.wfFrom lo m = true := by
  cases m with
  | nil => rfl
  | cons c rest =>
    obtain ⟨a, v⟩ := c
    rw [Memory.wfFrom_cons] at w ⊢
    exact ⟨Nat.le_trans h w.1, w.2⟩

/-- A write at or above the bound keeps the rising order and lists no byte that reads as unwritten. -/
theorem Memory.wfFrom_write {m : Memory} {lo a : Nat} (v : Byte) (w : Memory.wfFrom lo m = true) (h : lo ≤ a) :
    Memory.wfFrom lo (m.write a v) = true := by
  induction m generalizing lo with
  | nil => by_cases e : v = Memory.unwritten <;> simp [Memory.write, Memory.wfFrom, e, h]
  | cons c rest ih =>
    obtain ⟨b, x⟩ := c
    have w' := Memory.wfFrom_cons.mp w
    simp only [Memory.write]
    split
    · split
      · exact w
      · exact Memory.wfFrom_cons.mpr ⟨h, ‹_›, Memory.wfFrom_cons.mpr ⟨by omega, w'.2⟩⟩
    · split
      · subst a
        split
        · exact Memory.wfFrom_mono (by omega) w'.2.2
        · exact Memory.wfFrom_cons.mpr ⟨h, ‹_›, w'.2.2⟩
      · exact Memory.wfFrom_cons.mpr ⟨w'.1, w'.2.1, ih w'.2.2 (by omega)⟩

/-- A write lists no address that was not listed but its own. -/
theorem Memory.mem_write {m : Memory} {a : Nat} {v : Byte} {c : Host.Cell} (h : c ∈ m.write a v) : c ∈ m ∨ c.1 = a := by
  induction m with
  | nil =>
    simp only [Memory.write] at h
    split at h <;> simp_all
  | cons d rest ih =>
    obtain ⟨b, x⟩ := d
    simp only [Memory.write] at h
    split at h
    · split at h
      · exact .inl h
      · rcases List.mem_cons.mp h with rfl | h
        · exact .inr rfl
        · exact .inl h
    · split at h
      · split at h
        · exact .inl (List.mem_cons_of_mem _ h)
        · rcases List.mem_cons.mp h with rfl | h
          · exact .inr rfl
          · exact .inl (List.mem_cons_of_mem _ h)
      · rcases List.mem_cons.mp h with rfl | h
        · exact .inl List.mem_cons_self
        · exact (ih h).imp (List.mem_cons_of_mem _) id

theorem Memory.wf_write {m : Memory} {a : Nat} (v : Byte) (w : m.wf = true) (h : a < Config.memBytes) : (m.write a v).wf = true := by
  simp only [Memory.wf, Bool.and_eq_true, List.all_eq_true, decide_eq_true_eq] at w ⊢
  refine ⟨Memory.wfFrom_write v w.1 (Nat.zero_le a), fun c hc => ?_⟩
  rcases Memory.mem_write hc with hm | he
  · exact w.2 c hm
  · exact he ▸ h

theorem Memory.wf_writeBytes {m : Memory} (a : Nat) (bs : List Byte) (w : m.wf = true) : (m.writeBytes a bs).wf = true := by
  induction bs generalizing m a with
  | nil => exact w
  | cons v rest ih =>
    refine ih (a + 1) ?_
    split
    · exact Memory.wf_write v w ‹_›
    · exact w

theorem Memory.wf_rewrite {m : Memory} (cells : List Host.Cell) (w : m.wf = true) : (m.rewrite cells).wf = true := by
  induction cells generalizing m with
  | nil => exact w
  | cons c rest ih =>
    refine ih ?_
    split
    · exact Memory.wf_write c.2 w ‹_›
    · exact w

theorem wf_writeBlocks {m : Memory} (blocks : List (Block × List Byte)) (w : m.wf = true) : (writeBlocks m blocks).wf = true := by
  induction blocks generalizing m with
  | nil => exact w
  | cons b rest ih => exact ih (Memory.wf_writeBytes _ _ w)

/-- What a STORE leaves, complete or failed, is in the form. -/
theorem Programme.wf_stored (p : Programme) {m : Memory} (failed : Option Nat) (held : List Byte) (w : m.wf = true) :
    (p.stored m failed held).wf = true := by
  simp only [Programme.stored]
  split
  · exact wf_writeBlocks _ w
  · split
    · exact wf_writeBlocks _ w
    · exact Memory.wf_writeBytes _ _ (wf_writeBlocks _ w)

/-- The memory at reset has its canonical form. -/
theorem State.reset_mem_wf : Memory.wf State.reset.mem = true := rfl

end Sys2Proof.Machine
end

