-- ==== Sys2Proof/Laws/State.lean ====
section
/-! SUPPORT. One lemma per field and update of the state, true by unfolding, so that no later proof unfolds an update. -/

namespace Sys2Proof.Machine

/-! ## Updates of the whole state -/

@[simp] theorem State.withSt_pending (s : State) (t : Station) : (s.withSt t).pending = s.pending := rfl
@[simp] theorem State.withSt_mem (s : State) (t : Station) : (s.withSt t).mem = s.mem := rfl
@[simp] theorem State.withSt_st (s : State) (t : Station) : (s.withSt t).st = t := rfl
@[simp] theorem State.withPending_pending (s : State) (q : List Instr) : (s.withPending q).pending = q := rfl
@[simp] theorem State.withPending_mem (s : State) (q : List Instr) : (s.withPending q).mem = s.mem := rfl
@[simp] theorem State.withPending_st (s : State) (q : List Instr) : (s.withPending q).st = s.st := rfl
@[simp] theorem State.pushFront_pending (s : State) (c : Instr) : (s.pushFront c).pending = c :: s.pending := rfl
@[simp] theorem State.pushFront_mem (s : State) (c : Instr) : (s.pushFront c).mem = s.mem := rfl
@[simp] theorem State.pushFront_st (s : State) (c : Instr) : (s.pushFront c).st = s.st := rfl
@[simp] theorem State.withSt_self (s : State) : s.withSt s.st = s := rfl
@[simp] theorem State.withSt_withSt (s : State) (t u : Station) : (s.withSt t).withSt u = s.withSt u := rfl

/-! ## Station.setChannel -/

@[simp] theorem Station.setChannel_tb (s : Station) (n : Nat) (c : Channel) : (s.setChannel n c).tb = s.tb := rfl
@[simp] theorem Station.setChannel_ag (s : Station) (n : Nat) (c : Channel) : (s.setChannel n c).ag = s.ag := rfl
@[simp] theorem Station.setChannel_bus (s : Station) (n : Nat) (c : Channel) : (s.setChannel n c).bus = s.bus := rfl
@[simp] theorem Station.setChannel_channels (s : Station) (n : Nat) (c : Channel) : (s.setChannel n c).channels = s.channels.set n c := rfl
@[simp] theorem Station.setChannel_pf (s : Station) (n : Nat) (c : Channel) : (s.setChannel n c).pf = s.pf := rfl
@[simp] theorem Station.setChannel_pg (s : Station) (n : Nat) (c : Channel) : (s.setChannel n c).pg = s.pg := rfl
@[simp] theorem Station.setChannel_dials (s : Station) (n : Nat) (c : Channel) : (s.setChannel n c).dials = s.dials := rfl
@[simp] theorem Station.setChannel_sup (s : Station) (n : Nat) (c : Channel) : (s.setChannel n c).sup = s.sup := rfl
@[simp] theorem Station.setChannel_seq (s : Station) (n : Nat) (c : Channel) : (s.setChannel n c).seq = s.seq := rfl
@[simp] theorem Station.setChannel_panel (s : Station) (n : Nat) (c : Channel) : (s.setChannel n c).panel = s.panel := rfl
@[simp] theorem Station.setChannel_cfg (s : Station) (n : Nat) (c : Channel) : (s.setChannel n c).cfg = s.cfg := rfl
@[simp] theorem Station.setChannel_lines (s : Station) (n : Nat) (c : Channel) : (s.setChannel n c).lines = s.lines := rfl

/-! ## Station.setDial -/

@[simp] theorem Station.setDial_tb (s : Station) (n : Nat) (x : Dial) : (s.setDial n x).tb = s.tb := rfl
@[simp] theorem Station.setDial_ag (s : Station) (n : Nat) (x : Dial) : (s.setDial n x).ag = s.ag := rfl
@[simp] theorem Station.setDial_bus (s : Station) (n : Nat) (x : Dial) : (s.setDial n x).bus = s.bus := rfl
@[simp] theorem Station.setDial_channels (s : Station) (n : Nat) (x : Dial) : (s.setDial n x).channels = s.channels := rfl
@[simp] theorem Station.setDial_pf (s : Station) (n : Nat) (x : Dial) : (s.setDial n x).pf = s.pf := rfl
@[simp] theorem Station.setDial_pg (s : Station) (n : Nat) (x : Dial) : (s.setDial n x).pg = s.pg := rfl
@[simp] theorem Station.setDial_dials (s : Station) (n : Nat) (x : Dial) : (s.setDial n x).dials = s.dials.set n x := rfl
@[simp] theorem Station.setDial_sup (s : Station) (n : Nat) (x : Dial) : (s.setDial n x).sup = s.sup := rfl
@[simp] theorem Station.setDial_seq (s : Station) (n : Nat) (x : Dial) : (s.setDial n x).seq = s.seq := rfl
@[simp] theorem Station.setDial_panel (s : Station) (n : Nat) (x : Dial) : (s.setDial n x).panel = s.panel := rfl
@[simp] theorem Station.setDial_cfg (s : Station) (n : Nat) (x : Dial) : (s.setDial n x).cfg = s.cfg := rfl
@[simp] theorem Station.setDial_lines (s : Station) (n : Nat) (x : Dial) : (s.setDial n x).lines = s.lines := rfl

/-! ## Station.setCircuit -/

@[simp] theorem Station.setCircuit_tb (s : Station) (n : Nat) (x : Circuit) : (s.setCircuit n x).tb = s.tb := rfl
@[simp] theorem Station.setCircuit_ag (s : Station) (n : Nat) (x : Circuit) : (s.setCircuit n x).ag = s.ag := rfl
@[simp] theorem Station.setCircuit_bus (s : Station) (n : Nat) (x : Circuit) : (s.setCircuit n x).bus = s.bus := rfl
@[simp] theorem Station.setCircuit_channels (s : Station) (n : Nat) (x : Circuit) : (s.setCircuit n x).channels = s.channels := rfl
@[simp] theorem Station.setCircuit_pf (s : Station) (n : Nat) (x : Circuit) : (s.setCircuit n x).pf = s.pf := rfl
@[simp] theorem Station.setCircuit_pg (s : Station) (n : Nat) (x : Circuit) : (s.setCircuit n x).pg = s.pg := rfl
@[simp] theorem Station.setCircuit_dials (s : Station) (n : Nat) (x : Circuit) : (s.setCircuit n x).dials = s.dials := rfl
@[simp] theorem Station.setCircuit_sup (s : Station) (n : Nat) (x : Circuit) : (s.setCircuit n x).sup = { s.sup with circuits := s.sup.circuits.set n x } := rfl
@[simp] theorem Station.setCircuit_seq (s : Station) (n : Nat) (x : Circuit) : (s.setCircuit n x).seq = s.seq := rfl
@[simp] theorem Station.setCircuit_panel (s : Station) (n : Nat) (x : Circuit) : (s.setCircuit n x).panel = s.panel := rfl
@[simp] theorem Station.setCircuit_cfg (s : Station) (n : Nat) (x : Circuit) : (s.setCircuit n x).cfg = s.cfg := rfl
@[simp] theorem Station.setCircuit_lines (s : Station) (n : Nat) (x : Circuit) : (s.setCircuit n x).lines = s.lines := rfl

/-! ## Station.setRecord -/

@[simp] theorem Station.setRecord_tb (s : Station) (n : Nat) (r : Option Record) : (s.setRecord n r).tb = s.tb := rfl
@[simp] theorem Station.setRecord_ag (s : Station) (n : Nat) (r : Option Record) : (s.setRecord n r).ag = s.ag := rfl
@[simp] theorem Station.setRecord_bus (s : Station) (n : Nat) (r : Option Record) : (s.setRecord n r).bus = s.bus := rfl
@[simp] theorem Station.setRecord_channels (s : Station) (n : Nat) (r : Option Record) : (s.setRecord n r).channels = s.channels := rfl
@[simp] theorem Station.setRecord_pf (s : Station) (n : Nat) (r : Option Record) : (s.setRecord n r).pf = { s.pf with table := s.pf.table.set n r } := rfl
@[simp] theorem Station.setRecord_pg (s : Station) (n : Nat) (r : Option Record) : (s.setRecord n r).pg = s.pg := rfl
@[simp] theorem Station.setRecord_dials (s : Station) (n : Nat) (r : Option Record) : (s.setRecord n r).dials = s.dials := rfl
@[simp] theorem Station.setRecord_sup (s : Station) (n : Nat) (r : Option Record) : (s.setRecord n r).sup = s.sup := rfl
@[simp] theorem Station.setRecord_seq (s : Station) (n : Nat) (r : Option Record) : (s.setRecord n r).seq = s.seq := rfl
@[simp] theorem Station.setRecord_panel (s : Station) (n : Nat) (r : Option Record) : (s.setRecord n r).panel = s.panel := rfl
@[simp] theorem Station.setRecord_cfg (s : Station) (n : Nat) (r : Option Record) : (s.setRecord n r).cfg = s.cfg := rfl
@[simp] theorem Station.setRecord_lines (s : Station) (n : Nat) (r : Option Record) : (s.setRecord n r).lines = s.lines := rfl

/-! ## Station.setPeer -/

@[simp] theorem Station.setPeer_tb (s : Station) (n : Nat) (p : Option Peer) : (s.setPeer n p).tb = s.tb := rfl
@[simp] theorem Station.setPeer_ag (s : Station) (n : Nat) (p : Option Peer) : (s.setPeer n p).ag = { s.ag with peers := s.ag.peers.set n p } := rfl
@[simp] theorem Station.setPeer_bus (s : Station) (n : Nat) (p : Option Peer) : (s.setPeer n p).bus = s.bus := rfl
@[simp] theorem Station.setPeer_channels (s : Station) (n : Nat) (p : Option Peer) : (s.setPeer n p).channels = s.channels := rfl
@[simp] theorem Station.setPeer_pf (s : Station) (n : Nat) (p : Option Peer) : (s.setPeer n p).pf = s.pf := rfl
@[simp] theorem Station.setPeer_pg (s : Station) (n : Nat) (p : Option Peer) : (s.setPeer n p).pg = s.pg := rfl
@[simp] theorem Station.setPeer_dials (s : Station) (n : Nat) (p : Option Peer) : (s.setPeer n p).dials = s.dials := rfl
@[simp] theorem Station.setPeer_sup (s : Station) (n : Nat) (p : Option Peer) : (s.setPeer n p).sup = s.sup := rfl
@[simp] theorem Station.setPeer_seq (s : Station) (n : Nat) (p : Option Peer) : (s.setPeer n p).seq = s.seq := rfl
@[simp] theorem Station.setPeer_panel (s : Station) (n : Nat) (p : Option Peer) : (s.setPeer n p).panel = s.panel := rfl
@[simp] theorem Station.setPeer_cfg (s : Station) (n : Nat) (p : Option Peer) : (s.setPeer n p).cfg = s.cfg := rfl
@[simp] theorem Station.setPeer_lines (s : Station) (n : Nat) (p : Option Peer) : (s.setPeer n p).lines = s.lines := rfl

/-! ## Station.raise -/

@[simp] theorem Station.raise_tb (s : Station) (a : Anomaly) : (s.raise a).tb = s.tb := rfl
@[simp] theorem Station.raise_ag (s : Station) (a : Anomaly) : (s.raise a).ag = s.ag := rfl
@[simp] theorem Station.raise_bus (s : Station) (a : Anomaly) : (s.raise a).bus = s.bus := rfl
@[simp] theorem Station.raise_channels (s : Station) (a : Anomaly) : (s.raise a).channels = s.channels := rfl
@[simp] theorem Station.raise_pf (s : Station) (a : Anomaly) : (s.raise a).pf = s.pf := rfl
@[simp] theorem Station.raise_pg (s : Station) (a : Anomaly) : (s.raise a).pg = s.pg := rfl
@[simp] theorem Station.raise_dials (s : Station) (a : Anomaly) : (s.raise a).dials = s.dials := rfl
@[simp] theorem Station.raise_sup (s : Station) (a : Anomaly) : (s.raise a).sup = s.sup := rfl
@[simp] theorem Station.raise_seq (s : Station) (a : Anomaly) : (s.raise a).seq = s.seq := rfl
@[simp] theorem Station.raise_panel (s : Station) (a : Anomaly) : (s.raise a).panel = s.panel.raise a := rfl
@[simp] theorem Station.raise_cfg (s : Station) (a : Anomaly) : (s.raise a).cfg = s.cfg := rfl
@[simp] theorem Station.raise_lines (s : Station) (a : Anomaly) : (s.raise a).lines = s.lines := rfl

/-! ## Station.bump -/

@[simp] theorem Station.bump_tb (s : Station) (c : Counter) : (s.bump c).tb = s.tb := rfl
@[simp] theorem Station.bump_ag (s : Station) (c : Counter) : (s.bump c).ag = s.ag := rfl
@[simp] theorem Station.bump_bus (s : Station) (c : Counter) : (s.bump c).bus = s.bus := rfl
@[simp] theorem Station.bump_channels (s : Station) (c : Counter) : (s.bump c).channels = s.channels := rfl
@[simp] theorem Station.bump_pf (s : Station) (c : Counter) : (s.bump c).pf = s.pf := rfl
@[simp] theorem Station.bump_pg (s : Station) (c : Counter) : (s.bump c).pg = s.pg := rfl
@[simp] theorem Station.bump_dials (s : Station) (c : Counter) : (s.bump c).dials = s.dials := rfl
@[simp] theorem Station.bump_sup (s : Station) (c : Counter) : (s.bump c).sup = s.sup := rfl
@[simp] theorem Station.bump_seq (s : Station) (c : Counter) : (s.bump c).seq = s.seq := rfl
@[simp] theorem Station.bump_panel (s : Station) (c : Counter) : (s.bump c).panel = s.panel.bump c := rfl
@[simp] theorem Station.bump_cfg (s : Station) (c : Counter) : (s.bump c).cfg = s.cfg := rfl
@[simp] theorem Station.bump_lines (s : Station) (c : Counter) : (s.bump c).lines = s.lines := rfl

/-! ## Station.putProgramme -/

@[simp] theorem Station.putProgramme_tb (s : Station) (p : Programme) : (s.putProgramme p).tb = s.tb := rfl
@[simp] theorem Station.putProgramme_ag (s : Station) (p : Programme) : (s.putProgramme p).ag = s.ag := rfl
@[simp] theorem Station.putProgramme_bus (s : Station) (p : Programme) : (s.putProgramme p).bus = s.bus := rfl
@[simp] theorem Station.putProgramme_channels (s : Station) (p : Programme) : (s.putProgramme p).channels = s.channels := rfl
@[simp] theorem Station.putProgramme_pf (s : Station) (p : Programme) : (s.putProgramme p).pf = s.pf := rfl
@[simp] theorem Station.putProgramme_pg (s : Station) (p : Programme) : (s.putProgramme p).pg = p := rfl
@[simp] theorem Station.putProgramme_dials (s : Station) (p : Programme) : (s.putProgramme p).dials = s.dials := rfl
@[simp] theorem Station.putProgramme_sup (s : Station) (p : Programme) : (s.putProgramme p).sup = s.sup := rfl
@[simp] theorem Station.putProgramme_seq (s : Station) (p : Programme) : (s.putProgramme p).seq = s.seq := rfl
@[simp] theorem Station.putProgramme_panel (s : Station) (p : Programme) : (s.putProgramme p).panel = s.panel := rfl
@[simp] theorem Station.putProgramme_cfg (s : Station) (p : Programme) : (s.putProgramme p).cfg = s.cfg := rfl
@[simp] theorem Station.putProgramme_lines (s : Station) (p : Programme) : (s.putProgramme p).lines = s.lines := rfl

/-! ## Bus.append -/

@[simp] theorem Bus.append_send (b : Bus) (f : Frame) : (b.append f).send = b.send := rfl
@[simp] theorem Bus.append_hear (b : Bus) (f : Frame) : (b.append f).hear = b.hear := rfl
@[simp] theorem Bus.append_state (b : Bus) (f : Frame) : (b.append f).state = b.state := rfl
@[simp] theorem Bus.append_spans (b : Bus) (f : Frame) : (b.append f).spans = b.spans := rfl
@[simp] theorem Bus.append_spanBits (b : Bus) (f : Frame) : (b.append f).spanBits = b.spanBits := rfl
@[simp] theorem Bus.append_queue (b : Bus) (f : Frame) : (b.append f).queue = b.queue ++ [{ frame := f, age := b.nextAge, errors := 0, unheard := 0 }] := rfl
@[simp] theorem Bus.append_heldMark (b : Bus) (f : Frame) : (b.append f).heldMark = b.heldMark := rfl
@[simp] theorem Bus.append_nextAge (b : Bus) (f : Frame) : (b.append f).nextAge = b.nextAge + 1 := rfl
@[simp] theorem Bus.append_current (b : Bus) (f : Frame) : (b.append f).current = b.current := rfl
@[simp] theorem Bus.append_wait (b : Bus) (f : Frame) : (b.append f).wait = b.wait := rfl
@[simp] theorem Bus.append_guardedWait (b : Bus) (f : Frame) : (b.append f).guardedWait = b.guardedWait := rfl
@[simp] theorem Bus.append_drive (b : Bus) (f : Frame) : (b.append f).drive = b.drive := rfl

/-! ## Bus.removeAt -/

@[simp] theorem Bus.removeAt_send (b : Bus) (age : Nat) : (b.removeAt age).send = b.send := rfl
@[simp] theorem Bus.removeAt_hear (b : Bus) (age : Nat) : (b.removeAt age).hear = b.hear := rfl
@[simp] theorem Bus.removeAt_state (b : Bus) (age : Nat) : (b.removeAt age).state = b.state := rfl
@[simp] theorem Bus.removeAt_spans (b : Bus) (age : Nat) : (b.removeAt age).spans = b.spans := rfl
@[simp] theorem Bus.removeAt_spanBits (b : Bus) (age : Nat) : (b.removeAt age).spanBits = b.spanBits := rfl
@[simp] theorem Bus.removeAt_queue (b : Bus) (age : Nat) : (b.removeAt age).queue = b.queue.filter fun q => decide (q.age ≠ age) := rfl
@[simp] theorem Bus.removeAt_heldMark (b : Bus) (age : Nat) : (b.removeAt age).heldMark = b.heldMark := rfl
@[simp] theorem Bus.removeAt_nextAge (b : Bus) (age : Nat) : (b.removeAt age).nextAge = b.nextAge := rfl
@[simp] theorem Bus.removeAt_current (b : Bus) (age : Nat) : (b.removeAt age).current = b.current := rfl
@[simp] theorem Bus.removeAt_wait (b : Bus) (age : Nat) : (b.removeAt age).wait = b.wait := rfl
@[simp] theorem Bus.removeAt_guardedWait (b : Bus) (age : Nat) : (b.removeAt age).guardedWait = b.guardedWait := rfl
@[simp] theorem Bus.removeAt_drive (b : Bus) (age : Nat) : (b.removeAt age).drive = b.drive := rfl

/-! ## Bus.replaceAt -/

@[simp] theorem Bus.replaceAt_send (b : Bus) (age : Nat) (f : Frame) : (b.replaceAt age f).send = b.send := rfl
@[simp] theorem Bus.replaceAt_hear (b : Bus) (age : Nat) (f : Frame) : (b.replaceAt age f).hear = b.hear := rfl
@[simp] theorem Bus.replaceAt_state (b : Bus) (age : Nat) (f : Frame) : (b.replaceAt age f).state = b.state := rfl
@[simp] theorem Bus.replaceAt_spans (b : Bus) (age : Nat) (f : Frame) : (b.replaceAt age f).spans = b.spans := rfl
@[simp] theorem Bus.replaceAt_spanBits (b : Bus) (age : Nat) (f : Frame) : (b.replaceAt age f).spanBits = b.spanBits := rfl
@[simp] theorem Bus.replaceAt_queue (b : Bus) (age : Nat) (f : Frame) : (b.replaceAt age f).queue = b.queue.map fun q => if q.age = age then { frame := f, age := age, errors := 0, unheard := 0 } else q := rfl
@[simp] theorem Bus.replaceAt_heldMark (b : Bus) (age : Nat) (f : Frame) : (b.replaceAt age f).heldMark = b.heldMark := rfl
@[simp] theorem Bus.replaceAt_nextAge (b : Bus) (age : Nat) (f : Frame) : (b.replaceAt age f).nextAge = b.nextAge := rfl
@[simp] theorem Bus.replaceAt_current (b : Bus) (age : Nat) (f : Frame) : (b.replaceAt age f).current = b.current := rfl
@[simp] theorem Bus.replaceAt_wait (b : Bus) (age : Nat) (f : Frame) : (b.replaceAt age f).wait = b.wait := rfl
@[simp] theorem Bus.replaceAt_guardedWait (b : Bus) (age : Nat) (f : Frame) : (b.replaceAt age f).guardedWait = b.guardedWait := rfl
@[simp] theorem Bus.replaceAt_drive (b : Bus) (age : Nat) (f : Frame) : (b.replaceAt age f).drive = b.drive := rfl

/-! ## Bus.countError -/

@[simp] theorem Bus.countError_send (b : Bus) (age : Nat) : (b.countError age).send = b.send := rfl
@[simp] theorem Bus.countError_hear (b : Bus) (age : Nat) : (b.countError age).hear = b.hear := rfl
@[simp] theorem Bus.countError_state (b : Bus) (age : Nat) : (b.countError age).state = b.state := rfl
@[simp] theorem Bus.countError_spans (b : Bus) (age : Nat) : (b.countError age).spans = b.spans := rfl
@[simp] theorem Bus.countError_spanBits (b : Bus) (age : Nat) : (b.countError age).spanBits = b.spanBits := rfl
@[simp] theorem Bus.countError_queue (b : Bus) (age : Nat) : (b.countError age).queue = b.queue.map fun q => if q.age = age then { q with errors := q.errors + 1 } else q := rfl
@[simp] theorem Bus.countError_heldMark (b : Bus) (age : Nat) : (b.countError age).heldMark = b.heldMark := rfl
@[simp] theorem Bus.countError_nextAge (b : Bus) (age : Nat) : (b.countError age).nextAge = b.nextAge := rfl
@[simp] theorem Bus.countError_current (b : Bus) (age : Nat) : (b.countError age).current = b.current := rfl
@[simp] theorem Bus.countError_wait (b : Bus) (age : Nat) : (b.countError age).wait = b.wait := rfl
@[simp] theorem Bus.countError_guardedWait (b : Bus) (age : Nat) : (b.countError age).guardedWait = b.guardedWait := rfl
@[simp] theorem Bus.countError_drive (b : Bus) (age : Nat) : (b.countError age).drive = b.drive := rfl

/-! ## Bus.countUnheard -/

@[simp] theorem Bus.countUnheard_send (b : Bus) (age : Nat) : (b.countUnheard age).send = b.send := rfl
@[simp] theorem Bus.countUnheard_hear (b : Bus) (age : Nat) : (b.countUnheard age).hear = b.hear := rfl
@[simp] theorem Bus.countUnheard_state (b : Bus) (age : Nat) : (b.countUnheard age).state = b.state := rfl
@[simp] theorem Bus.countUnheard_spans (b : Bus) (age : Nat) : (b.countUnheard age).spans = b.spans := rfl
@[simp] theorem Bus.countUnheard_spanBits (b : Bus) (age : Nat) : (b.countUnheard age).spanBits = b.spanBits := rfl
@[simp] theorem Bus.countUnheard_queue (b : Bus) (age : Nat) : (b.countUnheard age).queue = b.queue.map fun q => if q.age = age then { q with unheard := q.unheard + 1 } else q := rfl
@[simp] theorem Bus.countUnheard_heldMark (b : Bus) (age : Nat) : (b.countUnheard age).heldMark = b.heldMark := rfl
@[simp] theorem Bus.countUnheard_nextAge (b : Bus) (age : Nat) : (b.countUnheard age).nextAge = b.nextAge := rfl
@[simp] theorem Bus.countUnheard_current (b : Bus) (age : Nat) : (b.countUnheard age).current = b.current := rfl
@[simp] theorem Bus.countUnheard_wait (b : Bus) (age : Nat) : (b.countUnheard age).wait = b.wait := rfl
@[simp] theorem Bus.countUnheard_guardedWait (b : Bus) (age : Nat) : (b.countUnheard age).guardedWait = b.guardedWait := rfl
@[simp] theorem Bus.countUnheard_drive (b : Bus) (age : Nat) : (b.countUnheard age).drive = b.drive := rfl

/-! ## Bus.endAttempt -/

@[simp] theorem Bus.endAttempt_send (b : Bus) (w : LineWait) (d : LineDrive) : (b.endAttempt w d).send = b.send := rfl
@[simp] theorem Bus.endAttempt_hear (b : Bus) (w : LineWait) (d : LineDrive) : (b.endAttempt w d).hear = b.hear := rfl
@[simp] theorem Bus.endAttempt_state (b : Bus) (w : LineWait) (d : LineDrive) : (b.endAttempt w d).state = b.state := rfl
@[simp] theorem Bus.endAttempt_spans (b : Bus) (w : LineWait) (d : LineDrive) : (b.endAttempt w d).spans = b.spans := rfl
@[simp] theorem Bus.endAttempt_spanBits (b : Bus) (w : LineWait) (d : LineDrive) : (b.endAttempt w d).spanBits = b.spanBits := rfl
@[simp] theorem Bus.endAttempt_queue (b : Bus) (w : LineWait) (d : LineDrive) : (b.endAttempt w d).queue = b.queue := rfl
@[simp] theorem Bus.endAttempt_heldMark (b : Bus) (w : LineWait) (d : LineDrive) : (b.endAttempt w d).heldMark = b.heldMark := rfl
@[simp] theorem Bus.endAttempt_nextAge (b : Bus) (w : LineWait) (d : LineDrive) : (b.endAttempt w d).nextAge = b.nextAge := rfl
@[simp] theorem Bus.endAttempt_current (b : Bus) (w : LineWait) (d : LineDrive) : (b.endAttempt w d).current = none := rfl
@[simp] theorem Bus.endAttempt_wait (b : Bus) (w : LineWait) (d : LineDrive) : (b.endAttempt w d).wait = w := rfl
@[simp] theorem Bus.endAttempt_guardedWait (b : Bus) (w : LineWait) (d : LineDrive) : (b.endAttempt w d).guardedWait = b.guardedWait := rfl
@[simp] theorem Bus.endAttempt_drive (b : Bus) (w : LineWait) (d : LineDrive) : (b.endAttempt w d).drive = d := rfl

/-! ## Bus.noteGuarded and Bus.serveRenewal -/

@[simp] theorem Bus.noteGuarded_send (b : Bus) : b.noteGuarded.send = b.send := rfl
@[simp] theorem Bus.noteGuarded_hear (b : Bus) : b.noteGuarded.hear = b.hear := rfl
@[simp] theorem Bus.noteGuarded_state (b : Bus) : b.noteGuarded.state = b.state := rfl
@[simp] theorem Bus.noteGuarded_spans (b : Bus) : b.noteGuarded.spans = b.spans := rfl
@[simp] theorem Bus.noteGuarded_spanBits (b : Bus) : b.noteGuarded.spanBits = b.spanBits := rfl
@[simp] theorem Bus.noteGuarded_queue (b : Bus) : b.noteGuarded.queue = b.queue := rfl
@[simp] theorem Bus.noteGuarded_heldMark (b : Bus) : b.noteGuarded.heldMark = b.heldMark := rfl
@[simp] theorem Bus.noteGuarded_nextAge (b : Bus) : b.noteGuarded.nextAge = b.nextAge := rfl
@[simp] theorem Bus.noteGuarded_current (b : Bus) : b.noteGuarded.current = b.current := rfl
@[simp] theorem Bus.noteGuarded_wait (b : Bus) : b.noteGuarded.wait = b.wait := rfl
@[simp] theorem Bus.noteGuarded_drive (b : Bus) : b.noteGuarded.drive = b.drive := rfl
@[simp] theorem Bus.noteGuarded_guardedWait (b : Bus) : b.noteGuarded.guardedWait = decide (b.state = .guarded) := rfl
@[simp] theorem Bus.serveRenewal_send (b : Bus) (id : Nat) : (b.serveRenewal id).send = b.send := rfl
@[simp] theorem Bus.serveRenewal_hear (b : Bus) (id : Nat) : (b.serveRenewal id).hear = b.hear := rfl
@[simp] theorem Bus.serveRenewal_state (b : Bus) (id : Nat) : (b.serveRenewal id).state = b.state := rfl
@[simp] theorem Bus.serveRenewal_spans (b : Bus) (id : Nat) : (b.serveRenewal id).spans = b.spans := rfl
@[simp] theorem Bus.serveRenewal_spanBits (b : Bus) (id : Nat) : (b.serveRenewal id).spanBits = b.spanBits := rfl
@[simp] theorem Bus.serveRenewal_heldMark (b : Bus) (id : Nat) : (b.serveRenewal id).heldMark = b.heldMark := rfl
@[simp] theorem Bus.serveRenewal_nextAge (b : Bus) (id : Nat) : (b.serveRenewal id).nextAge = b.nextAge := rfl
@[simp] theorem Bus.serveRenewal_current (b : Bus) (id : Nat) : (b.serveRenewal id).current = b.current := rfl
@[simp] theorem Bus.serveRenewal_wait (b : Bus) (id : Nat) : (b.serveRenewal id).wait = b.wait := rfl
@[simp] theorem Bus.serveRenewal_drive (b : Bus) (id : Nat) : (b.serveRenewal id).drive = b.drive := rfl
@[simp] theorem Bus.serveRenewal_guardedWait (b : Bus) (id : Nat) : (b.serveRenewal id).guardedWait = b.guardedWait := rfl
@[simp] theorem Bus.serveRenewal_length (b : Bus) (id : Nat) : (b.serveRenewal id).queue.length = b.queue.length := by
  simp [Bus.serveRenewal]
@[simp] theorem Station.noteGuarded_bus (s : Station) : s.noteGuarded.bus = s.bus.noteGuarded := rfl
@[simp] theorem Station.withdrawDraws_tb (s : Station) (id : Nat) : (s.withdrawDraws id).tb = s.tb := rfl
@[simp] theorem Station.withdrawDraws_sup (s : Station) (id : Nat) : (s.withdrawDraws id).sup = s.sup := rfl
@[simp] theorem Station.withdrawDraws_cfg (s : Station) (id : Nat) : (s.withdrawDraws id).cfg = s.cfg := rfl
@[simp] theorem Station.withdrawDraws_seq (s : Station) (id : Nat) : (s.withdrawDraws id).seq = s.seq := rfl
@[simp] theorem TimeBase.step_towerSecondDue (tb : TimeBase) (d : Int) : (tb.step d).towerSecondDue = none := rfl

/-! ## Bus.sendUp -/

@[simp] theorem Bus.sendUp_send (b : Bus) : b.sendUp.send = b.send + 8 := rfl
@[simp] theorem Bus.sendUp_hear (b : Bus) : b.sendUp.hear = b.hear := rfl
@[simp] theorem Bus.sendUp_state (b : Bus) : b.sendUp.state = b.state := rfl
@[simp] theorem Bus.sendUp_spans (b : Bus) : b.sendUp.spans = b.spans := rfl
@[simp] theorem Bus.sendUp_spanBits (b : Bus) : b.sendUp.spanBits = b.spanBits := rfl
@[simp] theorem Bus.sendUp_queue (b : Bus) : b.sendUp.queue = b.queue := rfl
@[simp] theorem Bus.sendUp_heldMark (b : Bus) : b.sendUp.heldMark = b.heldMark := rfl
@[simp] theorem Bus.sendUp_nextAge (b : Bus) : b.sendUp.nextAge = b.nextAge := rfl
@[simp] theorem Bus.sendUp_current (b : Bus) : b.sendUp.current = b.current := rfl
@[simp] theorem Bus.sendUp_wait (b : Bus) : b.sendUp.wait = b.wait := rfl
@[simp] theorem Bus.sendUp_guardedWait (b : Bus) : b.sendUp.guardedWait = b.guardedWait := rfl
@[simp] theorem Bus.sendUp_drive (b : Bus) : b.sendUp.drive = b.drive := rfl

/-! ## Bus.sendDown -/

@[simp] theorem Bus.sendDown_send (b : Bus) : b.sendDown.send = b.send - 1 := rfl
@[simp] theorem Bus.sendDown_hear (b : Bus) : b.sendDown.hear = b.hear := rfl
@[simp] theorem Bus.sendDown_state (b : Bus) : b.sendDown.state = b.state := rfl
@[simp] theorem Bus.sendDown_spans (b : Bus) : b.sendDown.spans = b.spans := rfl
@[simp] theorem Bus.sendDown_spanBits (b : Bus) : b.sendDown.spanBits = b.spanBits := rfl
@[simp] theorem Bus.sendDown_queue (b : Bus) : b.sendDown.queue = b.queue := rfl
@[simp] theorem Bus.sendDown_heldMark (b : Bus) : b.sendDown.heldMark = b.heldMark := rfl
@[simp] theorem Bus.sendDown_nextAge (b : Bus) : b.sendDown.nextAge = b.nextAge := rfl
@[simp] theorem Bus.sendDown_current (b : Bus) : b.sendDown.current = b.current := rfl
@[simp] theorem Bus.sendDown_wait (b : Bus) : b.sendDown.wait = b.wait := rfl
@[simp] theorem Bus.sendDown_guardedWait (b : Bus) : b.sendDown.guardedWait = b.guardedWait := rfl
@[simp] theorem Bus.sendDown_drive (b : Bus) : b.sendDown.drive = b.drive := rfl

/-! ## Bus.hearUp -/

@[simp] theorem Bus.hearUp_send (b : Bus) : b.hearUp.send = b.send := rfl
@[simp] theorem Bus.hearUp_hear (b : Bus) : b.hearUp.hear = min 127 (b.hear + 1) := rfl
@[simp] theorem Bus.hearUp_state (b : Bus) : b.hearUp.state = b.state := rfl
@[simp] theorem Bus.hearUp_spans (b : Bus) : b.hearUp.spans = b.spans := rfl
@[simp] theorem Bus.hearUp_spanBits (b : Bus) : b.hearUp.spanBits = b.spanBits := rfl
@[simp] theorem Bus.hearUp_queue (b : Bus) : b.hearUp.queue = b.queue := rfl
@[simp] theorem Bus.hearUp_heldMark (b : Bus) : b.hearUp.heldMark = b.heldMark := rfl
@[simp] theorem Bus.hearUp_nextAge (b : Bus) : b.hearUp.nextAge = b.nextAge := rfl
@[simp] theorem Bus.hearUp_current (b : Bus) : b.hearUp.current = b.current := rfl
@[simp] theorem Bus.hearUp_wait (b : Bus) : b.hearUp.wait = b.wait := rfl
@[simp] theorem Bus.hearUp_guardedWait (b : Bus) : b.hearUp.guardedWait = b.guardedWait := rfl
@[simp] theorem Bus.hearUp_drive (b : Bus) : b.hearUp.drive = b.drive := rfl

/-! ## Bus.hearDown -/

@[simp] theorem Bus.hearDown_send (b : Bus) : b.hearDown.send = b.send := rfl
@[simp] theorem Bus.hearDown_hear (b : Bus) : b.hearDown.hear = b.hear - 1 := rfl
@[simp] theorem Bus.hearDown_state (b : Bus) : b.hearDown.state = b.state := rfl
@[simp] theorem Bus.hearDown_spans (b : Bus) : b.hearDown.spans = b.spans := rfl
@[simp] theorem Bus.hearDown_spanBits (b : Bus) : b.hearDown.spanBits = b.spanBits := rfl
@[simp] theorem Bus.hearDown_queue (b : Bus) : b.hearDown.queue = b.queue := rfl
@[simp] theorem Bus.hearDown_heldMark (b : Bus) : b.hearDown.heldMark = b.heldMark := rfl
@[simp] theorem Bus.hearDown_nextAge (b : Bus) : b.hearDown.nextAge = b.nextAge := rfl
@[simp] theorem Bus.hearDown_current (b : Bus) : b.hearDown.current = b.current := rfl
@[simp] theorem Bus.hearDown_wait (b : Bus) : b.hearDown.wait = b.wait := rfl
@[simp] theorem Bus.hearDown_guardedWait (b : Bus) : b.hearDown.guardedWait = b.guardedWait := rfl
@[simp] theorem Bus.hearDown_drive (b : Bus) : b.hearDown.drive = .heardSlot := rfl

/-! ## The panel -/

@[simp] theorem Panel.raise_counters (p : Panel) (a : Anomaly) : (p.raise a).counters = p.counters := rfl
@[simp] theorem Panel.raise_restartDue (p : Panel) (a : Anomaly) : (p.raise a).restartDue = p.restartDue := rfl
@[simp] theorem Panel.bump_summary (p : Panel) (c : Counter) : (p.bump c).summary = p.summary := rfl
@[simp] theorem Panel.bump_restartDue (p : Panel) (c : Counter) : (p.bump c).restartDue = p.restartDue := rfl

/-! ## The pending FREEs -/

@[simp] theorem Supply.renewFrees_circuits (u : Supply) (id : Nat) (now : RunTime) : (u.renewFrees id now).circuits = u.circuits := rfl
@[simp] theorem Supply.renewFrees_draws (u : Supply) (id : Nat) (now : RunTime) : (u.renewFrees id now).draws = u.draws := rfl
@[simp] theorem Supply.renewFrees_waiting (u : Supply) (id : Nat) (now : RunTime) : (u.renewFrees id now).waiting = u.waiting := rfl
@[simp] theorem Supply.renewFrees_scene (u : Supply) (id : Nat) (now : RunTime) : (u.renewFrees id now).scene = u.scene := rfl
@[simp] theorem Supply.renewFrees_override (u : Supply) (id : Nat) (now : RunTime) : (u.renewFrees id now).override = u.override := rfl
@[simp] theorem Supply.renewFrees_quietEnd (u : Supply) (id : Nat) (now : RunTime) : (u.renewFrees id now).quietEnd = u.quietEnd := rfl
@[simp] theorem Supply.renewFrees_incomplete (u : Supply) (id : Nat) (now : RunTime) :
    (u.renewFrees id now).incomplete = u.incomplete := rfl
@[simp] theorem Supply.renewFrees_lastOverflow (u : Supply) (id : Nat) (now : RunTime) :
    (u.renewFrees id now).lastOverflow = u.lastOverflow := rfl

end Sys2Proof.Machine
end

