-- ==== Sys2Proof/Laws/Operations.lean ====
section
/-! SUPPORT. For each shared operation one lemma that says everything it can do, guards included: what a proof cites in place
of unfolding the operation. -/

namespace Sys2Proof.Machine

/-! ## How a command makes its next state -/

/-- A command over the station always answers a next state: the effect, with the restart that it may make due. -/
theorem State.run_eq (s : State) (f : Station → Station) : s.run f = .next (s.withSt (f s.st).restartIfDue) := rfl

theorem State.run_next {s t : State} {f : Station → Station} (h : s.run f = .next t) : t = s.withSt (f s.st).restartIfDue := by
  rw [State.run_eq] at h; exact (Host.Outcome.next.inj h).symm

/-- Nothing of a restart outstanding: nothing is made. -/
theorem Station.restartIfDue_settled {s : Station} (h : s.panel.restartDue = false) : s.restartIfDue = s := by
  simp [Station.restartIfDue, h]

/-- The three ways of a restart that may be due. -/
theorem Station.restartIfDue_cases (s : Station) :
    (s.panel.restartDue = false ∧ s.restartIfDue = s) ∨
    (s.panel.restartDue = true ∧ s.inService = false ∧ s.restartIfDue = { s with panel := { s.panel with restartDue := false } }) ∨
    (s.panel.restartDue = true ∧ s.inService = true ∧
      s.restartIfDue = Station.restart { s with panel := { s.panel with restartDue := false } }) := by
  cases h : s.panel.restartDue
  · exact .inl ⟨rfl, Station.restartIfDue_settled h⟩
  · cases h' : s.inService
    · refine .inr (.inl ⟨rfl, rfl, ?_⟩)
      simp only [Station.restartIfDue, h, Station.restartIfTaken, if_true]
      exact if_neg (show ¬ (s.inService = true) by simp [h'])
    · refine .inr (.inr ⟨rfl, rfl, ?_⟩)
      simp only [Station.restartIfDue, h, Station.restartIfTaken, if_true]
      exact if_pos (show s.inService = true from h')

/-- A command with an occasion has its effect, or changes nothing. -/
theorem Station.onlyIf_cases (s : Station) (o : Bool) (f : Station → Station) :
    (o = true ∧ s.onlyIf o f = f s) ∨ (o = false ∧ s.onlyIf o f = s) := by
  cases o
  · exact .inr ⟨rfl, rfl⟩
  · exact .inl ⟨rfl, rfl⟩

theorem Station.past_iff (s : Station) (due : Option RunTime) : s.past due = true ↔ ∃ d, due = some d ∧ d.reached s.tb.run = true := by
  cases due <;> simp [Station.past]

/-! ## The transmit queue -/

/-- A frame put to the queue (R58): held beside it, in the place of an older MARK, in a free slot, or refused. -/
theorem Bus.put_cases (b : Bus) (f : Frame) :
    (∃ q ∈ b.queue, f.isMark = true ∧ q.frame.isMark = true ∧ b.inAttempt q.age = true ∧ b.put f = ({ b with heldMark := true }, true)) ∨
    (∃ q ∈ b.queue, f.isMark = true ∧ q.frame.isMark = true ∧ b.inAttempt q.age = false ∧ b.put f = (b.replaceAt q.age f, true)) ∨
    ((f.isMark = true → ∀ q ∈ b.queue, q.frame.isMark = false) ∧ b.queue.length < 8 ∧ b.put f = (b.append f, true)) ∨
    ((f.isMark = true → ∀ q ∈ b.queue, q.frame.isMark = false) ∧ 8 ≤ b.queue.length ∧ b.put f = (b, false)) := by
  have free : (if f.isMark then b.queue.find? (fun q => q.frame.isMark) else none) = none →
      f.isMark = true → ∀ q ∈ b.queue, q.frame.isMark = false := by
    intro e m q hq
    rw [if_pos m, List.find?_eq_none] at e
    simpa using e q hq
  cases e : (if f.isMark then b.queue.find? (fun q => q.frame.isMark) else none) with
  | none =>
    by_cases l : b.queue.length < 8
    · exact .inr (.inr (.inl ⟨free e, l, by simp only [Bus.put, e, if_pos l]⟩))
    · exact .inr (.inr (.inr ⟨free e, Nat.le_of_not_lt l, by simp only [Bus.put, e, if_neg l]⟩))
  | some q =>
    have m : f.isMark = true := by
      cases m : f.isMark with
      | true => rfl
      | false => simp [m] at e
    have e' : b.queue.find? (fun q => q.frame.isMark) = some q := by rw [if_pos m] at e; exact e
    have hq : q ∈ b.queue := List.mem_of_find?_eq_some e'
    have hm : q.frame.isMark = true := by simpa using List.find?_some e'
    cases a : b.inAttempt q.age
    · exact .inr (.inl ⟨q, hq, m, hm, a, by simp [Bus.put, e, a]⟩)
    · exact .inl ⟨q, hq, m, hm, a, by simp [Bus.put, e, a]⟩

/-- A frame that is no MARK takes a free slot or is refused. -/
theorem Bus.put_of_not_mark {b : Bus} {f : Frame} (h : f.isMark = false) :
    b.put f = if b.queue.length < 8 then (b.append f, true) else (b, false) := by simp [Bus.put, h]

/-- A block queues a frame (R58): the station may not send, or the queue answers. -/
theorem Station.enqueue_cases (s : Station) (f : Frame) :
    (s.counting = false ∧ s.enqueue f = (s, false)) ∨
    (s.counting = true ∧ s.enqueue f = ({ s with bus := (s.bus.put f).1 }, (s.bus.put f).2)) := by
  cases h : s.counting
  · exact .inl ⟨rfl, if_neg (by simpa [Station.counting] using h)⟩
  · exact .inr ⟨rfl, if_pos (by simpa [Station.counting] using h)⟩

/-- A refused frame leaves the station as it was. -/
theorem Station.enqueue_refused {s t : Station} {f : Frame} (h : s.enqueue f = (t, false)) : t = s := by
  rcases s.enqueue_cases f with ⟨-, e⟩ | ⟨-, e⟩
  · rw [e] at h; exact (Prod.mk.inj h).1.symm
  · rw [e] at h
    obtain ⟨ht, hb⟩ := Prod.mk.inj h
    rcases s.bus.put_cases f with ⟨_, _, _, _, _, p⟩ | ⟨_, _, _, _, _, p⟩ | ⟨_, _, p⟩ | ⟨_, _, p⟩ <;> rw [p] at hb ht
    · cases hb
    · cases hb
    · cases hb
    · exact ht.symm

/-- Queueing touches the bus controller alone. -/
theorem Station.enqueue_frame (s : Station) (f : Frame) : ∃ b, (s.enqueue f).1 = { s with bus := b } := by
  rcases s.enqueue_cases f with ⟨-, e⟩ | ⟨-, e⟩ <;> rw [e]
  · exact ⟨s.bus, rfl⟩
  · exact ⟨_, rfl⟩

/-- A withdrawal (R60): nothing to withdraw, a frame in flight, or the first such slot freed. -/
theorem Station.withdraw_cases (s : Station) (p : Frame → Bool) :
    ((∀ q ∈ s.bus.queue, p q.frame = false) ∧ s.withdraw p = (s, .absent)) ∨
    (∃ q ∈ s.bus.queue, p q.frame = true ∧ s.bus.inAttempt q.age = true ∧ s.withdraw p = (s, .inFlight)) ∨
    (∃ q ∈ s.bus.queue, p q.frame = true ∧ s.bus.inAttempt q.age = false ∧
      s.withdraw p = ({ s with bus := s.bus.removeAt q.age }, .withdrawn)) := by
  cases e : s.bus.queue.find? (fun q => p q.frame) with
  | none =>
    refine .inl ⟨fun q hq => ?_, by simp only [Station.withdraw, e]⟩
    simpa using List.find?_eq_none.mp e q hq
  | some q =>
    have hq := List.mem_of_find?_eq_some e
    have hp : p q.frame = true := by simpa using List.find?_some e
    cases a : s.bus.inAttempt q.age
    · exact .inr (.inr ⟨q, hq, hp, a, by simp [Station.withdraw, e, a]⟩)
    · exact .inr (.inl ⟨q, hq, hp, a, by simp [Station.withdraw, e, a]⟩)

/-! ## Counts and bus states -/

/-- The bus state that counts give is ACTIVE, GUARDED or MUTE, by their ranges (R54). -/
theorem busStateOf_cases (send hear : Nat) :
    (255 < send ∧ busStateOf send hear = .mute) ∨
    (send ≤ 255 ∧ (96 ≤ send ∨ 96 ≤ hear) ∧ busStateOf send hear = .guarded) ∨
    (send < 96 ∧ hear < 96 ∧ busStateOf send hear = .active) := by
  by_cases h : 255 < send
  · exact .inl ⟨h, if_pos h⟩
  · by_cases g : 96 ≤ send ∨ 96 ≤ hear
    · exact .inr (.inl ⟨by omega, g, by simp [busStateOf, h, g]⟩)
    · refine .inr (.inr ⟨by omega, by omega, ?_⟩)
      simp [busStateOf, h, g]

/-- The bus state recomputed (R54): kept, or the state the counts give, entered with its flag. -/
theorem Station.recomputeBus_cases (s : Station) :
    ((s.bus.state = .duplicate ∨ s.bus.state = busStateOf s.bus.send s.bus.hear) ∧ s.recomputeBus = s) ∨
    (255 < s.bus.send ∧ s.bus.state ≠ .mute ∧ s.bus.state ≠ .duplicate ∧ s.recomputeBus = s.enterMute) ∨
    (busStateOf s.bus.send s.bus.hear = .guarded ∧ s.bus.state ≠ .guarded ∧ s.bus.state ≠ .duplicate ∧
      s.recomputeBus = Station.raise { s with bus := { s.bus with state := .guarded } } .busGuarded) ∨
    (busStateOf s.bus.send s.bus.hear = .active ∧ s.bus.state ≠ .active ∧ s.bus.state ≠ .duplicate ∧
      s.recomputeBus = { s with bus := { s.bus with state := .active } }) := by
  by_cases d : s.bus.state = .duplicate
  · exact .inl ⟨.inl d, by simp [Station.recomputeBus, d]⟩
  · by_cases k : s.bus.state = busStateOf s.bus.send s.bus.hear
    · exact .inl ⟨.inr k, by simp only [Station.recomputeBus, decide_eq_true k, Bool.or_true, if_true]⟩
    · rcases busStateOf_cases s.bus.send s.bus.hear with ⟨h, e⟩ | ⟨h, g, e⟩ | ⟨h, g, e⟩ <;> rw [e] at k
      · exact .inr (.inl ⟨h, k, d, by simp [Station.recomputeBus, e, k, d]⟩)
      · exact .inr (.inr (.inl ⟨e, k, d, by simp [Station.recomputeBus, e, k, d]⟩))
      · exact .inr (.inr (.inr ⟨e, k, d, by simp [Station.recomputeBus, e, k, d]⟩))

/-- The counts change only in RUNNING, in ACTIVE or GUARDED (R53). -/
theorem Station.count_cases (s : Station) (f : Bus → Bus) :
    (s.counting = false ∧ s.count f = s) ∨ (s.counting = true ∧ s.count f = Station.recomputeBus { s with bus := f s.bus }) := by
  cases h : s.counting
  · exact .inl ⟨rfl, by simp [Station.count, h]⟩
  · exact .inr ⟨rfl, by simp [Station.count, h]⟩

/-! ## Receptions and requests -/

/-- A frame received good (R47, R50, R62): none in reception, a twin of this station, or a frame for dispatch. -/
theorem Station.receive_cases (s : Station) (src : Nat) :
    ((∀ cap, s.bus.current ≠ some ⟨cap, .receiving⟩) ∧ s.receive src = (s, none)) ∨
    (∃ cap t, s.bus.current = some ⟨cap, .receiving⟩ ∧
      t = Station.count { s with bus := { s.bus with current := none, wait := .afterFrame, drive := .released } } Bus.hearDown ∧
      ((src = t.cfg.number ∧ t.bus.state ≠ .duplicate ∧ s.receive src = (t.enterDuplicate, none)) ∨
       ((src ≠ t.cfg.number ∨ t.bus.state = .duplicate) ∧ s.receive src = (t, some cap)))) := by
  rcases e : s.bus.current with _ | ⟨cap, _ | _⟩
  · exact .inl ⟨by simp, by simp [Station.receive, e]⟩
  · exact .inl ⟨by simp, by simp [Station.receive, e]⟩
  · refine .inr ⟨cap, _, rfl, rfl, ?_⟩
    simp only [Station.receive, e]
    split
    · rename_i h
      simp only [Bool.and_eq_true, decide_eq_true_eq] at h
      exact .inl ⟨h.1, h.2, rfl⟩
    · rename_i h
      simp only [Bool.and_eq_true, decide_eq_true_eq, not_and, Decidable.not_not] at h
      exact .inr ⟨(Decidable.not_or_of_imp h), rfl⟩

/-- A frame of one length that LISTENING discards (R61). -/
theorem Station.dispatch_cases (s : Station) (src : Nat) (fits : Bool) (take : Station → Station) :
    (∃ cap, (s.receive src).2 = some cap ∧ (s.receive src).1.running = true ∧ fits = true ∧ s.dispatch src fits take = take (s.receive src).1) ∨
    (((s.receive src).2 = none ∨ (s.receive src).1.running = false ∨ fits = false) ∧ s.dispatch src fits take = (s.receive src).1) := by
  rcases e : s.receive src with ⟨t, _ | cap⟩
  · exact .inr ⟨.inl rfl, by simp only [Station.dispatch, e]⟩
  · by_cases h : t.running = true ∧ fits = true
    · exact .inl ⟨cap, rfl, h.1, h.2, by simp [Station.dispatch, e, h.1, h.2]⟩
    · refine .inr ⟨.inr ?_, ?_⟩
      · cases hr : t.running
        · exact .inl rfl
        · exact .inr (by simpa [hr] using h)
      · simp only [Station.dispatch, e]
        exact if_neg (by simpa using h)

/-- An ASK (R185): not dispatched, not for this station, or taken by the panel service. -/
theorem Station.takeAsk_cases (s : Station) (a : Ask) (act : Station → Capture → Station) :
    ((s.receive a.asker).2 = none ∧ s.takeAsk a act = (s.receive a.asker).1) ∨
    (((s.receive a.asker).1.running = false ∨ (a.target ≠ (s.receive a.asker).1.cfg.number ∧ a.target ≠ 15)) ∧
      s.takeAsk a act = (s.receive a.asker).1) ∨
    (∃ cap, (s.receive a.asker).2 = some cap ∧ (s.receive a.asker).1.running = true ∧
      (a.target = (s.receive a.asker).1.cfg.number ∨ a.target = 15) ∧ s.takeAsk a act = act (s.receive a.asker).1 cap) := by
  rcases e : s.receive a.asker with ⟨t, _ | cap⟩
  · exact .inl ⟨rfl, by simp only [Station.takeAsk, e]⟩
  · by_cases h : t.running = true ∧ (a.target = t.cfg.number ∨ a.target = 15)
    · refine .inr (.inr ⟨cap, rfl, h.1, h.2, ?_⟩)
      simp only [Station.takeAsk, e]
      exact if_pos (by simpa using h)
    · refine .inr (.inl ⟨?_, ?_⟩)
      · cases hr : t.running
        · exact .inl rfl
        · exact .inr (by simpa [hr] using h)
      · simp only [Station.takeAsk, e]
        exact if_neg (by simpa using h)

/-- A request with its ANSWER (R185): the arguments too short, or the owner's reply. -/
theorem Station.request_eq (s : Station) (a : Ask) (code need : Nat) (args : List Byte) (act : Station → Capture → Reply) :
    s.request a code need args act = s.takeAsk a fun t c =>
      if args.length < need then t.answer a code .range [] else (act t c).st.answer a code (act t c).outcome (act t c).data := rfl

/-- An ANSWER touches the bus controller alone. -/
theorem Station.answer_frame (s : Station) (a : Ask) (code : Nat) (o : ReqOutcome) (d : List Byte) :
    ∃ b, s.answer a code o d = { s with bus := b } := by
  simp only [Station.answer]
  split
  · exact s.enqueue_frame _
  · exact ⟨s.bus, rfl⟩

/-! ## Bells -/

/-- A pending displacement (R69): none waits, the bell is free, the holder gives way, or it does not. -/
theorem Channel.settle_cases (c : Channel) (ch : Nat) :
    (c.waiting = none ∧ c.settle ch = (c, [])) ∨
    (∃ w, c.waiting = some w ∧ c.holder = .none ∧ c.settle ch = (c.giveTo w, [⟨w.slot, ch, .placed⟩])) ∨
    (∃ w, c.waiting = some w ∧ c.holder ≠ .none ∧ c.mayDisplace = true ∧
      c.settle ch = (c.giveTo w, c.tellHolder ch (.displaced c.queue.length) ++ [⟨w.slot, ch, .placed⟩])) ∨
    (∃ w, c.waiting = some w ∧ c.holder ≠ .none ∧ c.mayDisplace = false ∧ c.settle ch = (c, [])) := by
  cases e : c.waiting with
  | none => exact .inl ⟨rfl, by simp only [Channel.settle, e]⟩
  | some w =>
    by_cases h : c.holder = .none
    · exact .inr (.inl ⟨w, rfl, h, by simp only [Channel.settle, e, if_pos h]⟩)
    · cases m : c.mayDisplace
      · exact .inr (.inr (.inr ⟨w, rfl, h, rfl, by simp [Channel.settle, e, h, m]⟩))
      · exact .inr (.inr (.inl ⟨w, rfl, h, rfl, by simp [Channel.settle, e, h, m]⟩))

/-- Neither a displacement nor a release touches the hammer: state, pulse and sensor fields stay. -/
theorem Channel.settle_hammer (c : Channel) (ch : Nat) :
    (c.settle ch).1.state = c.state ∧ (c.settle ch).1.pulseEnd = c.pulseEnd ∧ (c.settle ch).1.pulseEnded = c.pulseEnded ∧
      (c.settle ch).1.lastLaunch = c.lastLaunch ∧ (c.settle ch).1.restTaken = c.restTaken ∧ (c.settle ch).1.rested = c.rested ∧
      (c.settle ch).1.lostAt = c.lostAt := by
  rcases c.settle_cases ch with ⟨-, e⟩ | ⟨w, -, -, e⟩ | ⟨w, -, -, -, e⟩ | ⟨w, -, -, -, e⟩ <;> rw [e] <;> simp [Channel.giveTo]

/-- A release (R70): by the holder, or of a claim. -/
theorem Channel.release_cases (c : Channel) (ch slot : Nat) :
    ((∃ p, c.holder = .perf slot p) ∧ c.release ch slot = c.vacate.settle ch) ∨
    ((∀ p, c.holder ≠ .perf slot p) ∧ c.release ch slot = (c.dropClaim slot, [])) := by
  rcases e : c.holder with _ | ⟨h, p⟩ | _
  · exact .inr ⟨by simp, by simp [Channel.release, e]⟩
  · by_cases k : h = slot
    · subst h
      exact .inl ⟨⟨p, rfl⟩, by simp [Channel.release, e]⟩
    · exact .inr ⟨by simp [k], by simp [Channel.release, e, k]⟩
  · exact .inr ⟨by simp, by simp [Channel.release, e]⟩

/-! ## The supply budget -/

/-- A withdrawal of a claim (R60, R168): its DRAW has left the queue and it waits again, or nothing has changed. -/
theorem Station.unqueue_cases (s : Station) (id : Nat) :
    (∃ q, s.bus.queue.find? (fun o => o.frame.isClaimOf id) = some q ∧ s.bus.inAttempt q.age = false ∧
      s.unqueue id = ({ s with bus := s.bus.removeAt q.age, sup := s.sup.setQueued id false }, .withdrawn)) ∨
    (∃ o, o ≠ .withdrawn ∧ s.unqueue id = (s, o)) := by
  cases h : s.bus.queue.find? (fun o => o.frame.isClaimOf id) with
  | none => exact .inr ⟨.absent, by simp, by simp only [Station.unqueue, Station.withdraw, h]⟩
  | some q =>
    cases k : s.bus.inAttempt q.age
    · exact .inl ⟨q, rfl, k, by simp [Station.unqueue, Station.withdraw, h, k]⟩
    · exact .inr ⟨.inFlight, by simp, by simp [Station.unqueue, Station.withdraw, h, k]⟩

/-- What withdraws a claim touches the queue and the marks "queued" alone. -/
theorem Station.unqueue_frame (s : Station) (id : Nat) :
    ∃ b w, (s.unqueue id).1 = { s with bus := b, sup := { s.sup with waiting := w } } := by
  rcases s.unqueue_cases id with ⟨q, -, -, e⟩ | ⟨o, -, e⟩ <;> rw [e]
  · exact ⟨_, _, rfl⟩
  · exact ⟨s.bus, s.sup.waiting, rfl⟩

/-- The same of the claims weighed again behind a new one (R166). -/
theorem Station.unqueueBehind_frame (id : Nat) (items : List PendingDraw) (s : Station) :
    ∃ b w, s.unqueueBehind id items = { s with bus := b, sup := { s.sup with waiting := w } } := by
  induction items generalizing s with
  | nil => exact ⟨s.bus, s.sup.waiting, rfl⟩
  | cons j rest ih =>
    simp only [Station.unqueueBehind]
    split
    · obtain ⟨b, w, h⟩ := s.unqueue_frame j.id
      obtain ⟨b', w', h'⟩ := ih { s with bus := b, sup := { s.sup with waiting := w } }
      exact ⟨b', w', by rw [h, h']⟩
    · exact ih s

/-- The same of a re-check (R169). -/
theorem Station.recheckWalk_frame (items : List PendingDraw) (s : Station) (sum : Nat) :
    ∃ b w, s.recheckWalk sum items = { s with bus := b, sup := { s.sup with waiting := w } } := by
  induction items generalizing s sum with
  | nil => exact ⟨s.bus, s.sup.waiting, rfl⟩
  | cons i rest ih =>
    simp only [Station.recheckWalk]
    split
    · split
      · obtain ⟨b, w, h⟩ := s.unqueue_frame i.id
        rcases e : s.unqueue i.id with ⟨t, o⟩
        rw [e] at h
        obtain rfl : t = _ := h
        cases o <;>
        · obtain ⟨b', w', h'⟩ := ih _ _
          exact ⟨b', w', h'⟩
      · exact ih s _
    · exact ih s _

/-- A renewal or decrease announced: its DRAW queued, or the flag raised (R170). -/
theorem Station.announce_frame (s : Station) (id amount hold : Nat) (p : DrawPurpose) :
    ∃ b q, s.announce id amount hold p = { s with bus := b, panel := q } := by
  simp only [Station.announce]
  obtain ⟨b, h⟩ := s.enqueue_frame (.draw id amount hold p)
  rcases e : s.enqueue (.draw id amount hold p) with ⟨t, _ | _⟩ <;> rw [e] at h <;> obtain rfl : t = _ := h
  · exact ⟨b, _, rfl⟩
  · exact ⟨b, s.panel, rfl⟩

/-- A FREE queued, or pending (R171). -/
theorem Station.queueFree_frame (s : Station) (id : Nat) (announced : Option RunTime) :
    ∃ b f, s.queueFree id announced = { s with bus := b, sup := { s.sup with frees := f } } := by
  simp only [Station.queueFree]
  obtain ⟨b, h⟩ := s.enqueue_frame (.free id)
  rcases e : s.enqueue (.free id) with ⟨t, _ | _⟩ <;> rw [e] at h <;> obtain rfl : t = _ := h
  · exact ⟨b, _, rfl⟩
  · exact ⟨b, s.sup.frees, rfl⟩

/-- The FREE of a given-up DRAW touches the queue and the pending FREEs alone (R168, log 58). -/
theorem Station.freeGivenUp_frame (s : Station) (id : Nat) :
    ∃ b f, s.freeGivenUp id = { s with bus := b, sup := { s.sup with frees := f } } :=
  Station.queueFree_frame { s with sup := { s.sup with frees := s.sup.frees.filter fun f => decide (f.id ≠ id) } } id (some s.tb.run)

/-- A DRAW that completes moves the last announcement of the pending FREEs of its id, and keeps which they are (R171). -/
theorem Supply.renewFrees_ids (u : Supply) (id : Nat) (now : RunTime) :
    (u.renewFrees id now).frees.map (·.id) = u.frees.map (·.id) := by
  simp only [Supply.renewFrees, List.map_map]
  exact List.map_congr_left fun f _ => by simp only [Function.comp_apply]; split <;> rfl

/-- The report on a DRAW announces it when it completed, and changes nothing before the outcome when it did not (R171). -/
theorem Station.drawAnnounced_cases (s : Station) (id : Nat) (o : Fate) :
    (o.complete = true ∧ s.drawAnnounced id o = { s with sup := s.sup.renewFrees id s.tb.run }) ∨
    (o.complete = false ∧ s.drawAnnounced id o = s) := by
  cases h : o.complete
  · exact .inr ⟨rfl, by simp [Station.drawAnnounced, h]⟩
  · exact .inl ⟨rfl, by simp [Station.drawAnnounced, h]⟩

/-- A placement walk touches the queue and the marks "queued" of the pending list alone (R167). -/
theorem Station.placeWalk_frame (items : List PendingDraw) (s : Station) :
    ∃ b w, s.placeWalk items = { s with bus := b, sup := { s.sup with waiting := w } } := by
  induction items generalizing s with
  | nil => exact ⟨s.bus, s.sup.waiting, rfl⟩
  | cons i rest ih =>
    simp only [Station.placeWalk]
    split
    · exact ih s
    · split
      · rcases e : s.enqueue i.frame with ⟨t, _ | _⟩
        · exact ⟨s.bus, s.sup.waiting, rfl⟩
        · obtain ⟨b, hb⟩ := s.enqueue_frame i.frame
          rw [e] at hb
          subst hb
          obtain ⟨b', w, h⟩ := ih { s with bus := b, sup := s.sup.setQueued i.id true }
          exact ⟨b', w, h⟩
      · exact ⟨s.bus, s.sup.waiting, rfl⟩

/-- A placement check: the same of the whole list. -/
theorem Station.placementCheck_frame (s : Station) : ∃ b w, s.placementCheck = { s with bus := b, sup := { s.sup with waiting := w } } :=
  Station.placeWalk_frame s.sup.waiting s

end Sys2Proof.Machine
end

