-- ==== Sys2Proof/WellFormed.lean ====
section
/-! DEFINITION. Which commands can occur: operands within the numbers and lengths of the manual. The machine is total and
answers ill-formed commands too; this says which ones the hardware can meet. -/

namespace Sys2Proof.WellFormed

/-- A frame's source station is a 4-bit number (R46). -/
def source (n : Nat) : Bool := n < 16

/-- A payload of the length its kind requires (11.1), from a 4-bit source. -/
def frame (src : Nat) (p : List Byte) (lo hi : Nat) : Bool := source src && decide (lo ≤ p.length) && decide (p.length ≤ hi)

/-- An ASK of 3 to 12 payload bytes (11.1): target and sequence are bytes, and up to 9 argument bytes follow the code. -/
def ask (a : Ask) (args : List Byte) : Bool :=
  source a.asker && decide (a.target < 256) && decide (a.seq < 256) && decide (args.length ≤ 9)

/-- The table a WRITE_ITEM's item code names (11.3). -/
def table (args : List Byte) : Nat := (args.getD 0 0).toNat / 16

/-- A WRITE_ITEM whose item code names one table (11.3). -/
def write (a : Ask) (args : List Byte) (n : Nat) : Bool := ask a args && decide (table args = n)

/-- The check of one command. -/
def check : Instr → Bool
  | .localSecondBoundary | .backupSecondBoundary | .towerSecond | .dialBoundary | .civilMinute | .civilQuarter
  | .civilHour | .markMoment | .arbitrationLost | .attemptError _ | .attemptCompleteHeard | .attemptCompleteUnheard
  | .referenceMessageExpiry | .referencePulse | .referenceLost | .quietPeriodEnd | .hourWaitDeadline
  | .recentKeyExpiry | .supplyGoodFall | .resetAssert | .startMoment | .backupSupplyLow | .checkingEnd
  | .listeningTimeout | .restartLine | .crystalCycle _ | .breakReceived | .startBit _ _ | .muteRecovery _ => true
  | .receiveError bits => decide (bits.length ≤ 156)
  | .markReceived src p => frame src p 9 9
  | .peerExpiry n => decide (n < 15)
  | .referenceMessage bytes _ => decide (bytes.length ≤ 6)
  | .cueReceived src p => frame src p 12 12
  | .haltKeyReceived src p | .haltSilenceReceived src p | .haltResumeReceived src p => frame src p 6 6
  | .drawReceived src p => frame src p 3 3
  | .freeReceived src p => frame src p 1 1
  | .answerReceived src p => frame src p 4 12
  | .drawEntryExpiry st id => decide (st < 15) && decide (id < 16)
  | .pendingWaitLong id => decide (id < 6) || (decide (8 ≤ id) && decide (id < 12))
  | .performancePlay slot | .noteFeed slot | .performanceEnd slot => decide (slot < 6)
  | .hammerLaunch ch | .lateLimitExpiry ch | .waitingNoteExpiry ch | .hammerPulseEnd ch | .returnSensorRest ch
  | .repeatIntervalPassed ch | .returnTimeout ch | .returnSensorLoss ch | .restLossLimit ch => decide (ch < 8)
  | .dialPulseBegin d | .dialPulseEnd d | .dialRenewalDue d => decide (d < 4)
  | .circuitStartEnd c | .feedbackCheck c | .circuitRenewalDue c => decide (c < 6)
  | .storeComplete failed _ => match failed with
    | none => true
    | some k => decide (k < 4)
  | .loadingEnd _ cells => cells.all fun c => decide (c.1 < Config.memBytes)
  | .writeItemCalendar a args => ask a args && (decide (table args = 0) || decide (2 < table args))
  | .writeItemDusk a args => write a args 1
  | .writeItemScene a args => write a args 2
  | .status a args | .readTime a args | .setTime a args | .readItem a args | .openTune a args | .addNotes a args | .closeTune a args
  | .deleteTune a args | .store a args | .start a args | .strike a args | .haltKey a args | .silence a args
  | .resume a args | .lightScene a args | .dialSet a args | .recheck a args | .clearSummary a args
  | .restart a args => ask a args
  | .unknownRequest a code args => ask a args && decide (code < 256) && (decide (code = 0) || decide (20 < code))
  | .frameDiscarded src => source src

end Sys2Proof.WellFormed
end

