-- ==== Sys2Proof/Laws/PerInstr.lean ====
section
/-! SUPPORT. A law of every command as syntax: the operands of a well-formed command fit a frame, its numbers a byte each and
its payload or arguments the twelve bytes a frame can carry (R46, 11.1, 11.2). -/

namespace Sys2Proof.Laws.Fits

/-- The numbers among a command's operands, the bit count of START_BIT left out. -/
def numbers : Instr → List Nat
  | .localSecondBoundary => []
  | .backupSecondBoundary => []
  | .towerSecond => []
  | .dialBoundary => []
  | .civilMinute => []
  | .civilQuarter => []
  | .civilHour => []
  | .markMoment => []
  | .startBit _ _ => []
  | .arbitrationLost => []
  | .attemptError _ => []
  | .attemptCompleteHeard => []
  | .attemptCompleteUnheard => []
  | .receiveError _ => []
  | .muteRecovery _ => []
  | .markReceived src _ => [src]
  | .peerExpiry peer => [peer]
  | .referenceMessage _ _ => []
  | .referenceMessageExpiry => []
  | .referencePulse => []
  | .referenceLost => []
  | .cueReceived src _ => [src]
  | .haltKeyReceived src _ => [src]
  | .haltSilenceReceived src _ => [src]
  | .haltResumeReceived src _ => [src]
  | .drawReceived src _ => [src]
  | .freeReceived src _ => [src]
  | .answerReceived src _ => [src]
  | .drawEntryExpiry station id => [station, id]
  | .quietPeriodEnd => []
  | .pendingWaitLong id => [id]
  | .performancePlay slot => [slot]
  | .noteFeed slot => [slot]
  | .performanceEnd slot => [slot]
  | .hourWaitDeadline => []
  | .recentKeyExpiry => []
  | .hammerLaunch channel => [channel]
  | .lateLimitExpiry channel => [channel]
  | .waitingNoteExpiry channel => [channel]
  | .hammerPulseEnd channel => [channel]
  | .returnSensorRest channel => [channel]
  | .repeatIntervalPassed channel => [channel]
  | .returnTimeout channel => [channel]
  | .returnSensorLoss channel => [channel]
  | .restLossLimit channel => [channel]
  | .dialPulseBegin dial => [dial]
  | .dialPulseEnd dial => [dial]
  | .dialRenewalDue dial => [dial]
  | .circuitStartEnd circuit => [circuit]
  | .feedbackCheck circuit => [circuit]
  | .circuitRenewalDue circuit => [circuit]
  | .storeComplete _ _ => []
  | .supplyGoodFall => []
  | .resetAssert => []
  | .startMoment => []
  | .backupSupplyLow => []
  | .checkingEnd => []
  | .loadingEnd _ _ => []
  | .listeningTimeout => []
  | .restartLine => []
  | .status a _ => [a.asker, a.target, a.seq]
  | .readTime a _ => [a.asker, a.target, a.seq]
  | .setTime a _ => [a.asker, a.target, a.seq]
  | .readItem a _ => [a.asker, a.target, a.seq]
  | .writeItemCalendar a _ => [a.asker, a.target, a.seq]
  | .writeItemDusk a _ => [a.asker, a.target, a.seq]
  | .writeItemScene a _ => [a.asker, a.target, a.seq]
  | .openTune a _ => [a.asker, a.target, a.seq]
  | .addNotes a _ => [a.asker, a.target, a.seq]
  | .closeTune a _ => [a.asker, a.target, a.seq]
  | .deleteTune a _ => [a.asker, a.target, a.seq]
  | .store a _ => [a.asker, a.target, a.seq]
  | .start a _ => [a.asker, a.target, a.seq]
  | .strike a _ => [a.asker, a.target, a.seq]
  | .haltKey a _ => [a.asker, a.target, a.seq]
  | .silence a _ => [a.asker, a.target, a.seq]
  | .resume a _ => [a.asker, a.target, a.seq]
  | .lightScene a _ => [a.asker, a.target, a.seq]
  | .dialSet a _ => [a.asker, a.target, a.seq]
  | .recheck a _ => [a.asker, a.target, a.seq]
  | .clearSummary a _ => [a.asker, a.target, a.seq]
  | .restart a _ => [a.asker, a.target, a.seq]
  | .unknownRequest a code _ => [a.asker, a.target, a.seq, code]
  | .crystalCycle _ => []
  | .breakReceived => []
  | .frameDiscarded src => [src]

/-- The bytes among a command's operands, those of a failed STORE's block left out. -/
def payload : Instr → List Byte
  | .localSecondBoundary => []
  | .backupSecondBoundary => []
  | .towerSecond => []
  | .dialBoundary => []
  | .civilMinute => []
  | .civilQuarter => []
  | .civilHour => []
  | .markMoment => []
  | .startBit _ _ => []
  | .arbitrationLost => []
  | .attemptError _ => []
  | .attemptCompleteHeard => []
  | .attemptCompleteUnheard => []
  | .receiveError _ => []
  | .muteRecovery _ => []
  | .markReceived _ payload => payload
  | .peerExpiry _ => []
  | .referenceMessage bytes _ => bytes
  | .referenceMessageExpiry => []
  | .referencePulse => []
  | .referenceLost => []
  | .cueReceived _ payload => payload
  | .haltKeyReceived _ payload => payload
  | .haltSilenceReceived _ payload => payload
  | .haltResumeReceived _ payload => payload
  | .drawReceived _ payload => payload
  | .freeReceived _ payload => payload
  | .answerReceived _ payload => payload
  | .drawEntryExpiry _ _ => []
  | .quietPeriodEnd => []
  | .pendingWaitLong _ => []
  | .performancePlay _ => []
  | .noteFeed _ => []
  | .performanceEnd _ => []
  | .hourWaitDeadline => []
  | .recentKeyExpiry => []
  | .hammerLaunch _ => []
  | .lateLimitExpiry _ => []
  | .waitingNoteExpiry _ => []
  | .hammerPulseEnd _ => []
  | .returnSensorRest _ => []
  | .repeatIntervalPassed _ => []
  | .returnTimeout _ => []
  | .returnSensorLoss _ => []
  | .restLossLimit _ => []
  | .dialPulseBegin _ => []
  | .dialPulseEnd _ => []
  | .dialRenewalDue _ => []
  | .circuitStartEnd _ => []
  | .feedbackCheck _ => []
  | .circuitRenewalDue _ => []
  | .storeComplete _ _ => []
  | .supplyGoodFall => []
  | .resetAssert => []
  | .startMoment => []
  | .backupSupplyLow => []
  | .checkingEnd => []
  | .loadingEnd _ _ => []
  | .listeningTimeout => []
  | .restartLine => []
  | .status _ args => args
  | .readTime _ args => args
  | .setTime _ args => args
  | .readItem _ args => args
  | .writeItemCalendar _ args => args
  | .writeItemDusk _ args => args
  | .writeItemScene _ args => args
  | .openTune _ args => args
  | .addNotes _ args => args
  | .closeTune _ args => args
  | .deleteTune _ args => args
  | .store _ args => args
  | .start _ args => args
  | .strike _ args => args
  | .haltKey _ args => args
  | .silence _ args => args
  | .resume _ args => args
  | .lightScene _ args => args
  | .dialSet _ args => args
  | .recheck _ args => args
  | .clearSummary _ args => args
  | .restart _ args => args
  | .unknownRequest _ _ args => args
  | .crystalCycle _ => []
  | .breakReceived => []
  | .frameDiscarded _ => []

/-- The operands of the command fit, if it is well-formed. -/
def Statement (i : Instr) : Prop := WellFormed.check i = true → (∀ n ∈ numbers i, n < 256) ∧ (payload i).length ≤ 12

/-! ## The shapes of operands -/

theorem none_fit : (∀ n ∈ ([] : List Nat), n < 256) ∧ ([] : List Byte).length ≤ 12 := ⟨nofun, Nat.zero_le 12⟩

theorem number_fits {n k : Nat} (hk : k ≤ 256) (h : decide (n < k) = true) : (∀ m ∈ [n], m < 256) ∧ ([] : List Byte).length ≤ 12 := by
  have := of_decide_eq_true h
  simp; omega

theorem ask_fits {a : Ask} {args : List Byte} (h : WellFormed.ask a args = true) :
    (∀ m ∈ [a.asker, a.target, a.seq], m < 256) ∧ args.length ≤ 12 := by
  simp only [WellFormed.ask, WellFormed.source, Bool.and_eq_true, decide_eq_true_eq] at h
  simp; omega

theorem frame_fits {src lo hi : Nat} {p : List Byte} (hh : hi ≤ 12) (h : WellFormed.frame src p lo hi = true) :
    (∀ m ∈ [src], m < 256) ∧ p.length ≤ 12 := by
  simp only [WellFormed.frame, WellFormed.source, Bool.and_eq_true, decide_eq_true_eq] at h
  simp; omega

theorem and_left {a b : Bool} (h : (a && b) = true) : a = true := (Bool.and_eq_true_iff.mp h).1

/-! ## One lemma for each command -/

theorem localSecondBoundary : Statement (.localSecondBoundary) := fun _ => none_fit
theorem backupSecondBoundary : Statement (.backupSecondBoundary) := fun _ => none_fit
theorem towerSecond : Statement (.towerSecond) := fun _ => none_fit
theorem dialBoundary : Statement (.dialBoundary) := fun _ => none_fit
theorem civilMinute : Statement (.civilMinute) := fun _ => none_fit
theorem civilQuarter : Statement (.civilQuarter) := fun _ => none_fit
theorem civilHour : Statement (.civilHour) := fun _ => none_fit
theorem markMoment : Statement (.markMoment) := fun _ => none_fit
theorem startBit (own : Bool) (recessive : Nat) : Statement (.startBit own recessive) := fun _ => none_fit
theorem arbitrationLost : Statement (.arbitrationLost) := fun _ => none_fit
theorem attemptError (e : TxError) : Statement (.attemptError e) := fun _ => none_fit
theorem attemptCompleteHeard : Statement (.attemptCompleteHeard) := fun _ => none_fit
theorem attemptCompleteUnheard : Statement (.attemptCompleteUnheard) := fun _ => none_fit
theorem receiveError (bits : List Bool) : Statement (.receiveError bits) := fun _ => none_fit
theorem muteRecovery (bits : List Bool) : Statement (.muteRecovery bits) := fun _ => none_fit
theorem markReceived (src : Nat) (payload : List Byte) : Statement (.markReceived src payload) := fun h => frame_fits (by omega) h
theorem peerExpiry (peer : Nat) : Statement (.peerExpiry peer) := fun h => number_fits (by omega) h
theorem referenceMessage (bytes : List Byte) (framed : Bool) : Statement (.referenceMessage bytes framed) := fun h => ⟨nofun, Nat.le_trans (of_decide_eq_true h) (by omega)⟩
theorem referenceMessageExpiry : Statement (.referenceMessageExpiry) := fun _ => none_fit
theorem referencePulse : Statement (.referencePulse) := fun _ => none_fit
theorem referenceLost : Statement (.referenceLost) := fun _ => none_fit
theorem cueReceived (src : Nat) (payload : List Byte) : Statement (.cueReceived src payload) := fun h => frame_fits (by omega) h
theorem haltKeyReceived (src : Nat) (payload : List Byte) : Statement (.haltKeyReceived src payload) := fun h => frame_fits (by omega) h
theorem haltSilenceReceived (src : Nat) (payload : List Byte) : Statement (.haltSilenceReceived src payload) := fun h => frame_fits (by omega) h
theorem haltResumeReceived (src : Nat) (payload : List Byte) : Statement (.haltResumeReceived src payload) := fun h => frame_fits (by omega) h
theorem drawReceived (src : Nat) (payload : List Byte) : Statement (.drawReceived src payload) := fun h => frame_fits (by omega) h
theorem freeReceived (src : Nat) (payload : List Byte) : Statement (.freeReceived src payload) := fun h => frame_fits (by omega) h
theorem answerReceived (src : Nat) (payload : List Byte) : Statement (.answerReceived src payload) := fun h => frame_fits (by omega) h
theorem drawEntryExpiry (station : Nat) (id : Nat) : Statement (.drawEntryExpiry station id) := by
  intro h
  simp only [WellFormed.check, Bool.and_eq_true, decide_eq_true_eq] at h
  simp [numbers, payload]; omega
theorem quietPeriodEnd : Statement (.quietPeriodEnd) := fun _ => none_fit
theorem pendingWaitLong (id : Nat) : Statement (.pendingWaitLong id) := by
  intro h
  simp only [WellFormed.check, Bool.or_eq_true, Bool.and_eq_true, decide_eq_true_eq] at h
  simp [numbers, payload]; omega
theorem performancePlay (slot : Nat) : Statement (.performancePlay slot) := fun h => number_fits (by omega) h
theorem noteFeed (slot : Nat) : Statement (.noteFeed slot) := fun h => number_fits (by omega) h
theorem performanceEnd (slot : Nat) : Statement (.performanceEnd slot) := fun h => number_fits (by omega) h
theorem hourWaitDeadline : Statement (.hourWaitDeadline) := fun _ => none_fit
theorem recentKeyExpiry : Statement (.recentKeyExpiry) := fun _ => none_fit
theorem hammerLaunch (channel : Nat) : Statement (.hammerLaunch channel) := fun h => number_fits (by omega) h
theorem lateLimitExpiry (channel : Nat) : Statement (.lateLimitExpiry channel) := fun h => number_fits (by omega) h
theorem waitingNoteExpiry (channel : Nat) : Statement (.waitingNoteExpiry channel) := fun h => number_fits (by omega) h
theorem hammerPulseEnd (channel : Nat) : Statement (.hammerPulseEnd channel) := fun h => number_fits (by omega) h
theorem returnSensorRest (channel : Nat) : Statement (.returnSensorRest channel) := fun h => number_fits (by omega) h
theorem repeatIntervalPassed (channel : Nat) : Statement (.repeatIntervalPassed channel) := fun h => number_fits (by omega) h
theorem returnTimeout (channel : Nat) : Statement (.returnTimeout channel) := fun h => number_fits (by omega) h
theorem returnSensorLoss (channel : Nat) : Statement (.returnSensorLoss channel) := fun h => number_fits (by omega) h
theorem restLossLimit (channel : Nat) : Statement (.restLossLimit channel) := fun h => number_fits (by omega) h
theorem dialPulseBegin (dial : Nat) : Statement (.dialPulseBegin dial) := fun h => number_fits (by omega) h
theorem dialPulseEnd (dial : Nat) : Statement (.dialPulseEnd dial) := fun h => number_fits (by omega) h
theorem dialRenewalDue (dial : Nat) : Statement (.dialRenewalDue dial) := fun h => number_fits (by omega) h
theorem circuitStartEnd (circuit : Nat) : Statement (.circuitStartEnd circuit) := fun h => number_fits (by omega) h
theorem feedbackCheck (circuit : Nat) : Statement (.feedbackCheck circuit) := fun h => number_fits (by omega) h
theorem circuitRenewalDue (circuit : Nat) : Statement (.circuitRenewalDue circuit) := fun h => number_fits (by omega) h
theorem storeComplete (failed : Option Nat) (held : List Byte) : Statement (.storeComplete failed held) := fun _ => none_fit
theorem supplyGoodFall : Statement (.supplyGoodFall) := fun _ => none_fit
theorem resetAssert : Statement (.resetAssert) := fun _ => none_fit
theorem startMoment : Statement (.startMoment) := fun _ => none_fit
theorem backupSupplyLow : Statement (.backupSupplyLow) := fun _ => none_fit
theorem checkingEnd : Statement (.checkingEnd) := fun _ => none_fit
theorem loadingEnd (answers : Bool) (rewritten : List Host.Cell) : Statement (.loadingEnd answers rewritten) := fun _ => none_fit
theorem listeningTimeout : Statement (.listeningTimeout) := fun _ => none_fit
theorem restartLine : Statement (.restartLine) := fun _ => none_fit
theorem status (a : Ask) (args : List Byte) : Statement (.status a args) := fun h => ask_fits h
theorem readTime (a : Ask) (args : List Byte) : Statement (.readTime a args) := fun h => ask_fits h
theorem setTime (a : Ask) (args : List Byte) : Statement (.setTime a args) := fun h => ask_fits h
theorem readItem (a : Ask) (args : List Byte) : Statement (.readItem a args) := fun h => ask_fits h
theorem writeItemCalendar (a : Ask) (args : List Byte) : Statement (.writeItemCalendar a args) := fun h => ask_fits (and_left h)
theorem writeItemDusk (a : Ask) (args : List Byte) : Statement (.writeItemDusk a args) := fun h => ask_fits (and_left h)
theorem writeItemScene (a : Ask) (args : List Byte) : Statement (.writeItemScene a args) := fun h => ask_fits (and_left h)
theorem openTune (a : Ask) (args : List Byte) : Statement (.openTune a args) := fun h => ask_fits h
theorem addNotes (a : Ask) (args : List Byte) : Statement (.addNotes a args) := fun h => ask_fits h
theorem closeTune (a : Ask) (args : List Byte) : Statement (.closeTune a args) := fun h => ask_fits h
theorem deleteTune (a : Ask) (args : List Byte) : Statement (.deleteTune a args) := fun h => ask_fits h
theorem store (a : Ask) (args : List Byte) : Statement (.store a args) := fun h => ask_fits h
theorem start (a : Ask) (args : List Byte) : Statement (.start a args) := fun h => ask_fits h
theorem strike (a : Ask) (args : List Byte) : Statement (.strike a args) := fun h => ask_fits h
theorem haltKey (a : Ask) (args : List Byte) : Statement (.haltKey a args) := fun h => ask_fits h
theorem silence (a : Ask) (args : List Byte) : Statement (.silence a args) := fun h => ask_fits h
theorem resume (a : Ask) (args : List Byte) : Statement (.resume a args) := fun h => ask_fits h
theorem lightScene (a : Ask) (args : List Byte) : Statement (.lightScene a args) := fun h => ask_fits h
theorem dialSet (a : Ask) (args : List Byte) : Statement (.dialSet a args) := fun h => ask_fits h
theorem recheck (a : Ask) (args : List Byte) : Statement (.recheck a args) := fun h => ask_fits h
theorem clearSummary (a : Ask) (args : List Byte) : Statement (.clearSummary a args) := fun h => ask_fits h
theorem restart (a : Ask) (args : List Byte) : Statement (.restart a args) := fun h => ask_fits h
theorem unknownRequest (a : Ask) (code : Nat) (args : List Byte) : Statement (.unknownRequest a code args) := by
  intro h
  simp only [WellFormed.check, Bool.and_eq_true, decide_eq_true_eq] at h
  have k := ask_fits h.1.1
  simp only [numbers, payload, List.mem_cons, List.not_mem_nil, or_false, forall_eq_or_imp, forall_eq] at k ⊢
  omega
theorem crystalCycle (inputs : Inputs) : Statement (.crystalCycle inputs) := fun _ => none_fit
theorem breakReceived : Statement (.breakReceived) := fun _ => none_fit
theorem frameDiscarded (src : Nat) : Statement (.frameDiscarded src) := fun h => number_fits (k := 16) (by omega) h

end Sys2Proof.Laws.Fits
end

