-- ==== Sys2Proof/Tests/Slice0.lean ====
section
/-! SUPPORT. The author's own tests: the check of well-formedness on ill-formed terms, one command on a small state with
expected values from the manual's worked tables, and for every statement with hypotheses a state and operands that meet them
(`witness_...`, one for each clause). -/

open Sys2Proof Sys2Proof.Machine

namespace Sys2Proof.Tests

/-! ## Small states -/

/-- A bell channel's fields. -/
def bellCfg (bell lead : Nat) : ChannelConfig := ⟨some bell, lead, 20, 30, 40, 50, 500⟩

/-- Station 3 with bells 1 and 2, one dial, and one light circuit. -/
def cfg : StationBlock :=
  { StationBlock.cold with
    number := 3, reference := true, cueCapable := true, hammerSlots := 2, hourBell := some 1, velocity := 2, budget := 100
    channels := bellCfg 1 100 :: bellCfg 2 80 :: StationBlock.cold.channels.drop 2
    dials := ⟨true, 300, 2, 5⟩ :: StationBlock.cold.dials.drop 1
    circuits := ⟨some 5, 20, 2, 10, true⟩ :: StationBlock.cold.circuits.drop 1 }

/-- A bell channel in service. -/
def bell : Channel := { Channel.cold with state := .ready, lastLaunch := some ⟨0, 0⟩, restTaken := true, rested := true }

/-- 10:00 on day 9,000, at second 1,000 of run time. -/
def clock : TimeBase := { TimeBase.cold with run := ⟨1000, 100⟩, day := 9000, us := 36000000000, valid := true }

/-- Station 3 in RUNNING. -/
def base : Station :=
  { Station.cold with
    tb := clock, cfg := cfg
    channels := bell :: bell :: List.replicate 6 Channel.cold
    seq := { Station.cold.seq with state := .running, supplyGood := true, supplyFell := false, backupValid := true } }

/-- The machine with a station. -/
def on (t : Station) : State := ⟨[], [], t⟩

/-- The capture of a start bit 100 cycles back. -/
def start : Capture := ⟨9000, 35999996948, 0, ⟨1000, 0⟩⟩

/-- A station on whose line a frame of another station is being received. -/
def hearing (t : Station) : Station := { t with bus := { t.bus with current := some ⟨start, .receiving⟩ } }

/-- A station that sends the frame in its queue's only slot. -/
def sending (t : Station) (f : Frame) : Station :=
  { t with bus := { t.bus with current := some ⟨start, .sending 4⟩, queue := [⟨f, 4, 0, 0⟩], nextAge := 5 } }

/-- An ASK of panel 14 to station 3. -/
def ask : Ask := ⟨14, 3, 9⟩

/-- An ASK of panel 14 to all stations. -/
def askAll : Ask := ⟨14, 15, 9⟩

/-- A key at the ends of its fields. -/
def topKey : Key := ⟨.tune, 255, 7, 65535, 65535⟩

/-- MARK fields at the ends of their ranges. -/
def topMark : MarkFields := ⟨65535, 1099511627775, 7, some 14, true, true, true⟩

/-- A TOLL entry for midnight on weekdays. -/
def tollBytes : List Byte := [0x30, 127, 0, 0, 0, 0, 0x05, 0x9F, 0x03, 0xE8, 64, 255, 0, 0]

/-- A station one cycle before a local second, its tower time one unit before midnight of the last day. -/
def lateCycle : State := on { base with tb := { clock with
  run := ⟨4294967295, 32767⟩, day := 65535, us := 86399999999, frac := 511, q := -66, r := 32767, valid := false } }

/-- The same in SUPPLY_WAIT. -/
def lateBackup : State := on { base with
  tb := { clock with day := 65535, us := 86399999999, frac := 511, q := 65, r := 1, backupCyc := 32767 }
  seq := { base.seq with state := .supplyWait } }

/-- A local second boundary with the least rate and remainder and a large slew. -/
def secondDue : State := on { base with tb := { clock with secondDue := true, rate := -200000, rho := -999, slew := -2000000 } }

/-- A second boundary of the backup domain. -/
def backupDue : State := on { base with
  tb := { clock with backupDue := true, rate := 200000, rho := 999 }, seq := { base.seq with state := .supplyWait } }

/-- A tower second that holds the mark moment of station 3. -/
def towerDue : State := on { base with tb := { clock with us := 36001000000, towerSecondDue := some ⟨9000, 36001000000⟩ } }

/-- A mark moment reached. -/
def markDue : State := on { base with
  tb := { clock with us := 36001500000 }, ag := { base.ag with armed := some (.tower ⟨9000, 36001500000⟩) } }

/-- A civil minute with an empty calendar. -/
def minuteDue : State := on { base with tb := { clock with minuteDue := some ⟨9000, 600, 9000, 600⟩ } }

/-- A civil minute for which a LIGHT entry stands, the entry having fired at another minute. -/
def lightDue : State := on { base with
  tb := { clock with minuteDue := some ⟨9000, 600, 9000, 600⟩ }
  pg := { base.pg with
    calendar := some ⟨⟨.weekly 127, .light (.fixed 600) 2⟩, [some ⟨⟨900, 0⟩, 599⟩]⟩ :: List.replicate 95 none } }

/-- A civil quarter. -/
def quarterDue : State := on { base with tb := { clock with quarterDue := some ⟨4, 10, 9000, 600⟩ } }

/-- A civil hour. -/
def hourDue : State := on { base with tb := { clock with hourDue := some ⟨10, 9000, 9000, 600⟩ } }

/-- A civil hour 2,999 s after the last one. -/
def hourSoon : State := on { base with
  tb := { clock with run := ⟨2999, 0⟩, hourDue := some ⟨0, 9000, 9000, 0⟩ }, pf := { base.pf with lastHour := some ⟨0, 0⟩ } }

/-- A CUE and a MARK wait, the MARK queued last. -/
def twoFrames : Station := { base with bus := { base.bus with
  queue := [⟨.free 1, 0, 0, 0⟩, ⟨.mark none, 1, 0, 0⟩, ⟨.free 2, 2, 0, 0⟩, ⟨.halt .silence, 3, 0, 0⟩, ⟨.halt .resume, 4, 0, 0⟩], nextAge := 5 } }

/-- A GUARDED station whose queue holds a MARK. -/
def guardedMark : State := on { base with bus := { base.bus with
  state := .guarded, send := 255, hear := 127, guardedWait := true, queue := [⟨.mark none, 7, 2, 0⟩], nextAge := 8 } }

/-- A station that sends a FREE, with counts. -/
def attempt (send hear errors unheard : Nat) (state : BusState) (f : Frame) : State := on { base with bus := { base.bus with
  send := send, hear := hear, state := state, current := some ⟨start, .sending 4⟩, queue := [⟨f, 4, errors, unheard⟩], nextAge := 5 } }

/-- A station taking a frame as a receiver, with counts. -/
def receiving (send hear : Nat) (state : BusState) : State := on { base with bus := { base.bus with
  send := send, hear := hear, state := state, current := some ⟨start, .receiving⟩ } }

/-- The bits of a frame whose first sync bit is wrong. -/
def badSync : List Bool := [true, false, true, false, true, true]

/-- A MUTE station with 63 spans behind it. -/
def muteAt (spans bits : Nat) : State := on { base with bus := { base.bus with
  state := .mute, send := 256, spans := spans, spanBits := bits } }

/-- The 9 bytes of a MARK one second ahead of the capture, stratum 5, valid time. -/
def markBytes : List Byte := bytesOf 2 9000 ++ bytesOf 5 36000999948 ++ [0xB0, 15]

/-- A LISTENING station with its reference locked, taking a frame. -/
def lockedHears : State := on (hearing { base with
  seq := { base.seq with state := .listening }, ag := { base.ag with refState := .locked } })

/-- A station that follows station 14, taking a frame. -/
def followerHears : State := on (hearing { base with
  tb := { clock with slew := 1500000 }, ag := { base.ag with followed := some 14 } })

/-- A peer whose last MARK is 24 s old. -/
def oldPeer : Peer := ⟨2, none, true, true, false, ⟨976, 100⟩, 0⟩

/-- A station that hears station 14 alone, its MARK 24 s old. -/
def peerLate (r : RefState) : State := on { base with ag := { base.ag with
  refState := r, followed := some 14, rateRem := 7, peers := List.replicate 14 none ++ [some oldPeer] } }

/-- A station with a receiver, with a message and a candidate minute or none. -/
def withMessage (m : RefMessage) (c : Option RefMinute) : State := on { base with
  tb := { clock with us := 36000000500 }, ag := { base.ag with refState := .searching, message := some m, candidate := c, followed := some 2 } }

/-- The bytes of a good message: 10:00 on day 9,000. -/
def goodMessage : List Byte := [180, 0x23, 0x28, 2, 88, 167]

/-- A station whose reference is locked, its last minute 150 s old. -/
def lockLate : State := on { base with ag := { base.ag with refState := .locked, lastMinute := some ⟨9000, 598, ⟨850, 100⟩⟩ } }

/-- The seven argument bytes of a SET_TIME. -/
def timeArgs (us : Nat) : List Byte := bytesOf 2 9001 ++ bytesOf 5 us

/-- A CUE payload of a key, its start, beat and length. -/
def cueBytes (k : Key) (offset beat length : Nat) : List Byte := k.bytes 0 ++ bytesOf 2 offset ++ bytesOf 2 beat ++ bytesOf 2 length

/-- A tune's key, one minute ahead. -/
def tuneKey : Key := ⟨.tune, 250, 0, 9000, 601⟩

/-- A toll's key, one minute ahead. -/
def tollKey : Key := ⟨.toll, 1, 0, 9000, 601⟩

/-- A station taking a frame that knows a recent key. -/
def knowsKey (k : Key) : State := on (hearing { base with pf := { base.pf with recent := [⟨k, .ended, ⟨900, 0⟩⟩] } })

/-- A record of the class, its start now plus `ahead` microseconds. -/
def record (k : Key) (state : PerfState) (ahead : Int) (part : Bool) : Record :=
  { key := k, state := state, start := clock.now.plus ahead, ends := some clock.now, beat := 600, length := 8, hasPart := part, cursor := 0,
    nextTarget := clock.now.plus ahead, marks := List.replicate 8 .none, entriesOut := 0, origin := .heard, frameState := .none,
    deadline1 := none, deadline2 := none, firstLaunched := false }

/-- A station with a record in a slot. -/
def withRecord (slot : Nat) (r : Record) : Station := { base with pf := { base.pf with table := base.pf.table.set slot (some r) } }

/-- Tune 250 with one note on bell 1. -/
def oneTune (offset : Nat) (t : Station) : Station := { t with pg := { t.pg with
  tunes := some ⟨250, 8, 600, 1, 1, 0, .ready⟩ :: List.replicate 63 none, notes := [⟨offset, 1, 4, .none⟩] } }

/-- A WAITING hour whose second deadline is now. -/
def waitingHour : Record := { record ⟨.hour, 0, 0, 9000, 600⟩ .waiting 0 true with
  length := 12, beat := 1500, deadline1 := some ⟨900, 0⟩, deadline2 := some ⟨1000, 100⟩ }

/-- START arguments of a toll. -/
def tollArgs (bell : Nat) : List Byte := [1, BitVec.ofNat 8 bell] ++ bytesOf 2 60001 ++ [0]

/-- A station without a free shared slot, taking a frame. -/
def fullTable : State := on (hearing { base with pf := { base.pf with table := none :: List.replicate 5 (some (record tuneKey .cued 0 false)) } })

/-- A cue-capable station with a lead of 1,504 ms, taking a frame. -/
def cueStation : State := on (hearing { base with cfg := { cfg with cueLead := 1504 } })

/-- A HALT_KEY of a tune out of range. -/
def badKeyBytes : List Byte := Key.bytes ⟨.tune, 251, 0, 9000, 601⟩ 0

/-- A HALT of a tune with a quarter. -/
def quarterKeyBytes : List Byte := Key.bytes ⟨.tune, 250, 1, 9000, 601⟩ 0

/-- A station with a CUED record, taking a frame. -/
def silenceMe : State := on (hearing (withRecord 1 (record tuneKey .cued 0 true)))

/-- A station whose oldest recent key is 600 s old. -/
def keyOld : State := on { base with pf := { base.pf with recent := [⟨tuneKey, .ended, ⟨400, 100⟩⟩] } }

/-- A PANEL entry of velocity 4 whose launch moment on bell 1 lies `late` microseconds back. -/
def panelEntry (late : Int) : StrikeEntry := ⟨clock.now.plus (100000 - late), .panel, 4, .none, .panel⟩

/-- Bell 1 held for PANEL with that entry. -/
def panelBell (late : Int) : Channel := { bell with holder := .panel, queue := [panelEntry late] }

/-- A station with another channel 0. -/
def withBell (c : Channel) : Station := { base with channels := base.channels.set 0 c }

/-- A channel in SETTLING whose pulse ended `cycles` cycles into second 1,000. -/
def settling (rested : Bool) : Channel := { bell with
  state := .settling, lastLaunch := some ⟨999, 16484⟩, pulseEnded := some ⟨999, 19760⟩, restTaken := rested, rested := rested }

/-- Bell 1's sensor shows rest. -/
def resting (t : Station) : Station := { t with lines := { t.lines with rest := ⟨true, 0⟩ :: t.lines.rest.drop 1 } }

/-- A tune's note on bell 1, 100,001 microseconds late, waiting behind another performance. -/
def lateNote : WaitingNote := ⟨⟨clock.now.plus (-1), .slot 1, 1, .none, .tune⟩, 1, 3⟩

/-- Its bell. -/
def lateWaiting : Channel := { bell with holder := .perf 2 0, waiting := some lateNote }

/-- Its record, with the claim. -/
def claimant : Record := { record tuneKey .playing 0 true with entriesOut := 1, marks := .claimed true :: List.replicate 7 .none }

/-- The station of both. -/
def noteLate : State := on { withRecord 1 claimant with channels := base.channels.set 0 lateWaiting }

/-- The feed entry of a tune in slot 1. -/
def fedEntry : StrikeEntry := ⟨clock.now, .slot 1, 2, .none, .tune⟩

/-- STRIKE arguments. -/
def strikeArgs (bellNo velocity delay : Nat) : List Byte := [BitVec.ofNat 8 bellNo, BitVec.ofNat 8 velocity] ++ bytesOf 2 delay

/-- A dial at a position; the target at 10:00 is 1,200. -/
def hands (position : Nat) : Dial := { Dial.cold with state := .idle, position := some position }

/-- A station with that dial. -/
def withDial (x : Dial) : Station := { base with dials := x :: base.dials.drop 1 }

/-- A dial boundary. -/
def dialDue (x : Dial) : State := on { withDial x with tb := { clock with dialDue := some 36000 } }

/-- A dial catching up, its last pulse begun 2 s back. -/
def catching : Dial := { hands 1439 with state := .catchingUp, draw := .live, lastBegin := some ⟨998, 100⟩ }

/-- A dial at the end of a single pulse. -/
def pulsing (position misses : Nat) (active : Bool) : Dial := { hands position with
  state := .pulsing, misses := misses, pulseEnd := some ⟨1000, 100⟩, beganActive := active }

/-- The same station at midnight, when the target is 0. -/
def midnight (t : Station) : Station := { t with tb := { clock with us := 0 } }

/-- The twelve-o'clock sensor of dial 0 is active. -/
def twelve (t : Station) : Station := { t with lines := { t.lines with twelve := ⟨true, 0⟩ :: t.lines.twelve.drop 1 } }

/-- DIAL_SET arguments. -/
def dialArgs (dial position : Nat) : List Byte := BitVec.ofNat 8 dial :: bytesOf 2 position

/-- A dial that seeks, its renewal due. -/
def seeking : Dial := { Dial.cold with state := .seeking, draw := .live, renewalDue := some ⟨1000, 100⟩ }

/-- A station with a dial's or circuit's own draw. -/
def drawing (id amount : Nat) (t : Station) : Station := { t with sup := { t.sup with draws := [⟨3, id, amount, true, 150, none⟩] } }

/-- A station whose bus is MUTE. -/
def muted (t : Station) : Station := { t with bus := { t.bus with state := .mute } }

/-- A station with light circuit 0. -/
def withCircuit (x : Circuit) : Station := { base with sup := { base.sup with circuits := x :: base.sup.circuits.drop 1 } }

/-- A lit circuit, renewal, start end and check due. -/
def lit (state : CircuitState) : Circuit := ⟨state, true, true, some ⟨1000, 100⟩, some ⟨1000, 100⟩, .live, some ⟨1000, 100⟩⟩

/-- A heard draw of station 14. -/
def heardDraw (hold : Nat) : DrawEntry := ⟨14, 15, 255, false, hold, some ⟨850, 100⟩⟩

/-- A station with heard draws. -/
def withDraws (l : List DrawEntry) : Station := { base with sup := { base.sup with draws := l } }

/-- 37 heard draws of station 13. -/
def manyDraws : List DrawEntry := (List.range 37).map fun k => ⟨13, k, 1, false, 150, some ⟨900, 0⟩⟩

/-- A full list without room: the view has been incomplete for 150 s. -/
def incompleteView : State := on { base with sup := { base.sup with
  draws := heardDraw 150 :: manyDraws, incomplete := true, lastOverflow := some ⟨850, 100⟩ } }

/-- A draw waiting since 120 s and one cycle. -/
def waitingDraw (amount : Nat) (told : Bool) : PendingDraw := ⟨0, amount, 150, false, false, ⟨880, 99⟩, told⟩

/-- A station with that draw at the end of its quiet period, 30 A in its view. -/
def quietOver (amount : Nat) : State := on { base with sup := { base.sup with
  quietEnd := some ⟨1000, 100⟩, waiting := [waitingDraw amount false], draws := [⟨14, 0, 30, false, 150, none⟩] } }

/-- A station with a draw that has waited long. -/
def longWait (told : Bool) : State := on { base with sup := { base.sup with waiting := [waitingDraw 20 told] } }

/-- A station that takes LIGHT_SCENE 15 for its one dark circuit, 80 A in its view. -/
def sceneStation : State := on (hearing { base with
  pg := { base.pg with scenes := base.pg.scenes.set 15 0x10 }
  sup := { base.sup with
    circuits := { Circuit.cold with state := .off } :: base.sup.circuits.drop 1, draws := [⟨14, 0, 80, false, 150, none⟩] } })

/-- A circuit waiting for its draw. -/
def waitingCircuit : Circuit := { Circuit.cold with state := .waitingSupply, draw := .pending, wanted := true }

/-- The station that sends that draw. -/
def drawSent : State := on (sending { base with sup := { base.sup with
  circuits := waitingCircuit :: base.sup.circuits.drop 1, waiting := [{ waitingDraw 20 false with queued := true }] } }
  (.draw 0 20 150 .new))

/-- The station at the start end of its circuit, its steady amount given, and 80 A drawn by others. -/
def startEnd (steady : Nat) : State := on { withCircuit (lit .starting) with
  cfg := { cfg with circuits := ⟨some 5, 20, 2, steady, true⟩ :: cfg.circuits.drop 1 }
  sup := { (withCircuit (lit .starting)).sup with draws := [⟨3, 0, 20, true, 150, none⟩, ⟨14, 0, 70, false, 150, none⟩] } }

/-- The contactor of circuit 0 shows closed. -/
def closed (t : Station) : Station := { t with lines := { t.lines with feedback := ⟨true, 0⟩ :: t.lines.feedback.drop 1 } }

/-- A station taking a frame, with another programme store. -/
def programmed (p : Programme) : State := on (hearing { base with pg := p })

/-- A programme store with a STORE in flight. -/
def storing : Programme := { Programme.cold with storing := some ⟨some (14, 9)⟩ }

/-- Seven bytes of a calendar entry behind the item, the part and the index. -/
def calendarArgs (part slot : Nat) (bytes : List Byte) : List Byte := [BitVec.ofNat 8 part, BitVec.ofNat 8 slot] ++ bytes

/-- A staged part 0 of the midnight TOLL for slot 95. -/
def staged (asker : Nat) : Programme := { Programme.cold with staging := some ⟨asker, 95, tollBytes.take 7⟩ }

/-- OPEN_TUNE arguments. -/
def openArgs (tune length beat : Nat) : List Byte := BitVec.ofNat 8 tune :: (bytesOf 2 length ++ bytesOf 2 beat)

/-- A tune of the directory. -/
def aTune (number : Nat) (state : TuneState) : Tune := ⟨number, 8, 600, 1, 1, 0, state⟩

/-- A full directory without tune 250. -/
def fullDirectory : Programme := { Programme.cold with tunes := (List.range 64).map fun k => some (aTune (k + 1) .ready) }

/-- Tune 250 open, its last offset 16. -/
def opened (loss : Bool) : Programme := { Programme.cold with
  tunes := some (aTune 250 .opened) :: List.replicate 63 none, notes := [⟨16, 1, 4, .none⟩], opened := some ⟨250, some 16, loss⟩ }

/-- ADD_NOTES arguments with one note. -/
def noteArgs (bellNo offset : Nat) : List Byte := 250 :: Note.bytes ⟨offset, bellNo, 4, .none⟩

/-- Tunes 1 and 250, the first with the first note. -/
def twoTunes : Programme := { Programme.cold with
  tunes := some (aTune 1 .ready) :: some { aTune 250 .ready with first := 1 } :: List.replicate 62 none
  notes := [⟨0, 1, 1, .none⟩, ⟨5, 2, 2, .none⟩] }

/-- A station at the start of LOADING, with a station block in its memory. -/
def loading (m : Memory) : State := ⟨[], m, { Station.cold with
  tb := { clock with run := ⟨0, 6554⟩ }, channels := List.replicate 8 bell, seq := { base.seq with state := .loading } }⟩

/-- The station block of `cfg`, written whole. -/
def blockBytes : List Byte :=
  [3, 0, 0, 3, 2] ++ bytesOf 2 1500 ++ [1] ++ bytesOf 2 1500 ++ [2] ++ [1, 0, 100, 20, 30, 40, 50, 1, 244] ++ List.replicate 63 0 ++
    [1, 1, 44, 2, 5] ++ List.replicate 15 0 ++ [5, 20, 2, 10, 1] ++ List.replicate 25 0 ++ bytesOf 2 100

/-- A memory with that block. -/
def blockMemory : Memory := Memory.writeBytes [] 0 (Block.closed blockBytes)

/-- The station block those bytes hold. -/
def theBlock : StationBlock := stationBlockOf blockBytes

/-- A station at the end of CHECKING. -/
def checking : State := on { closed (resting base) with
  tb := { clock with run := ⟨0, 6554⟩ }, seq := { base.seq with state := .checking, backupValid := false } }

/-- A station in SUPPLY_WAIT. -/
def waitingSupply (fell valid : Bool) : State := on { withDial (hands 7) with
  tb := { clock with rate := 1000, rho := 999 }
  seq := { base.seq with state := .supplyWait, supplyFell := fell, backupValid := valid } }

/-- A station whose LISTENING ends, without dials or circuits. -/
def listeningEnds (valid : Bool) : State := on { base with
  tb := { clock with valid := valid }, cfg := { cfg with hourBell := none }
  seq := { base.seq with state := .listening, timeout := some ⟨1000, 100⟩ } }

/-- A RESTART's ANSWER. -/
def restartAnswer : Frame := .answer 14 9 20 .done [] true

/-- A local second with a FREE pending since an announcement. -/
def freeWaits (announced : RunTime) (t : Station) : State := on { t with
  tb := { clock with secondDue := true }, sup := { t.sup with frees := [⟨1, some announced⟩] } }

/-- A local second with 37 heard draws, the last overflow 150 s back. -/
def viewLook : State := on { base with
  tb := { clock with secondDue := true }
  sup := { base.sup with draws := manyDraws, incomplete := true, lastOverflow := some ⟨850, 100⟩ } }

/-- The last cycle before midnight of the last day. -/
def lastCycle : State := on { base with tb := { clock with day := 65535, us := 86399999999, frac := 511, q := -66, r := 1 } }

/-- A station with a calendar of one entry that never fired, and a scan mark. -/
def oneEntry (e : CalendarEntry) (t : Station) : Station := { t with pg := { t.pg with
  calendar := some ⟨e, [none]⟩ :: List.replicate 95 none, scanMark := some (9000, 599) } }

/-- An OFFSET entry of 10:00. -/
def offsetEntry (offset : Nat) : CalendarEntry := ⟨.weekly 127, .offset 600 offset⟩

/-- The civil minute 10:00 with that entry alone, and no hour bell. -/
def offsetDue (offset : Nat) : State := on (oneEntry (offsetEntry offset) { base with
  tb := { clock with minuteDue := some ⟨9000, 600, 9000, 600⟩ }, cfg := { cfg with hourBell := none } })

/-- A TUNE entry of 10:00. -/
def tuneEntry : CalendarEntry := ⟨.weekly 127, .tune 600 250 0⟩

/-- The civil minute 10:00 with that entry, its tune in the directory. -/
def tuneDue : State := on (oneEntry tuneEntry (oneTune 0 { base with tb := { clock with minuteDue := some ⟨9000, 600, 9000, 600⟩ } }))

/-- A calendar with a LIGHT entry. -/
def lightCalendar (minute : Nat) : Programme := (oneEntry ⟨.weekly 127, .light (.fixed minute) 2⟩ base).pg

/-- The chime before 10:00. -/
def chimeKey : Key := ⟨.quarter, 250, 4, 9000, 600⟩

/-- The hour of 10:00, waiting. -/
def hourWaits : Record := waitingHour

/-- A record in slot 1 that holds bell 1. -/
def holding (r : Record) : Record := { r with marks := (List.replicate 8 .none).set 0 .held }

/-- Bell 1, held by that record. -/
def heldBell : Channel := { bell with holder := .perf 1 3, openPhrase := true, isProtected := true, queue := [⟨clock.now, .slot 1, 2, .start, .tune⟩] }

/-- A station with a record in slot 1 and channel 0. -/
def recordAnd (r : Record) (c : Channel) : Station := { withRecord 1 r with channels := base.channels.set 0 c }

/-- A record whose CUE is still queued. -/
def cueWaits : Record := { record tuneKey .cued 60000000 true with origin := .localCue, frameState := .queued }

/-- The slot of its CUE. -/
def cueSlot : QueueSlot := ⟨.cue tuneKey 1504 600 8, 4, 0, 0⟩

/-- A station with it that takes a frame. -/
def cueQueued : State := on (hearing { withRecord 1 cueWaits with bus := { base.bus with queue := [cueSlot], nextAge := 5 } })

/-- A toll on bell 1 whose next stroke is so far ahead. -/
def toll (state : PerfState) (ahead : Int) (cursor : Nat) : Record := { record tollKey state ahead true with cursor := cursor, beat := 2000 }

/-- An entry of slot 1 on bell 1 whose launch moment lies `late` microseconds back. -/
def slotEntry (late : Int) (c : LateClass) : StrikeEntry := ⟨clock.now.plus (100000 - late), .slot 1, 4, .none, c⟩

/-- Bell 1 with that entry. -/
def slotBell (late : Int) (c : LateClass) : Channel := { bell with holder := .perf 1 3, queue := [slotEntry late c] }

/-- A record with one entry out. -/
def oneOut (r : Record) : Record := { r with entriesOut := 1 }

/-- A dial catching up, its pulse at its end, begun at a second. -/
def overlapping (begun : Nat) : Dial := { hands 1199 with
  state := .catchingUp, draw := .live, lastBegin := some ⟨begun, 100⟩, pulseEnd := some ⟨1000, 100⟩, beganActive := true }

/-- A renewal with an increase of its id in the queue. -/
def increaseWaits : State := on { drawing 0 20 (withCircuit (lit .starting)) with
  bus := { base.bus with queue := [⟨.draw 0 30 150 (.increase false), 0, 0, 0⟩], nextAge := 1 } }

/-- A twin's DRAW reaches a station in DUPLICATE with an own draw. -/
def twinDraws : State := on (hearing { drawing 0 10 base with bus := { base.bus with state := .duplicate } })

/-- A programme as a STORE has written it. -/
def storedProgramme : Programme := { Programme.cold with
  tunes := (List.replicate 64 none).set 63 (some ⟨250, 8, 600, 1, 1, 0, .ready⟩), notes := [⟨16, 1, 4, .none⟩]
  dusk := List.replicate 46 (some 1439) }

/-- A station with a MARK held beside the queue. -/
def holdsMark (s : State) : State := on { s.st with bus := { s.st.bus with heldMark := true } }

/-- A station that sends a frame, with the counts of its slot. -/
def trying (t : Station) (errors unheard : Nat) (f : Frame) : State := on { t with bus := { t.bus with
  current := some ⟨start, .sending 4⟩, queue := [⟨f, 4, errors, unheard⟩], nextAge := 5 } }

/-- A station with a FREE that its queue has refused. -/
def refused (id : Nat) (s : State) : State := s.withSt { s.st with sup := { s.st.sup with frees := [⟨id, none⟩] } }

/-- A draw whose DRAW is queued. -/
def queuedDraw (amount : Nat) : PendingDraw := { waitingDraw amount false with queued := true }

/-- A station with that draw. -/
def asks (amount : Nat) : Station := { base with sup := { base.sup with waiting := [queuedDraw amount] } }

/-- A GUARDED station that waits 8 bits more. -/
def guardedWaits : State := on { base with bus := { base.bus with
  state := .guarded, send := 96, wait := .afterFrame, guardedWait := true } }

/-- The civil minute 10:00 with an OFFSET entry, and a record in slot 1. -/
def jumps (r : Record) : State := on { (offsetDue 180).st with pf := { base.pf with table := base.pf.table.set 1 (some r) } }

/-- The same minute, taken 300 s late, with an hour bell and no record. -/
def hourJumps : State := on { (offsetDue 180).st with
  cfg := cfg, tb := { clock with us := 36300000000, minuteDue := some ⟨9000, 600, 9000, 600⟩ } }

/-- The 9 bytes of a MARK that is `ahead` microseconds ahead of the capture. -/
def markAt (ahead : Nat) (flags : Byte) : List Byte := bytesOf 2 9000 ++ bytesOf 5 (35999996948 + ahead) ++ [flags, 15]

/-- A station that follows station 14, with a previous mark of it. -/
def followsSince (sec : Nat) : State := on (hearing { base with ag := { base.ag with
  followed := some 14, rateRem := 3, prevMark := some ⟨.station 14, ⟨sec, 0⟩, some 8⟩ } })

/-- A LISTENING station taking a frame, its time valid or not. -/
def listensTo (valid : Bool) : State := on (hearing { base with
  tb := { clock with valid := valid }, seq := { base.seq with state := .listening, timeout := some ⟨1100, 0⟩ } })

/-- A message for 10:00, its pulse 200 ms later. -/
def tenMessage : RefMessage := ⟨9000, 600, ⟨999, 26314⟩⟩

/-- A station LOCKED since the minute `minute`. -/
def lockedSince (minute : Nat) : State := on { base with
  tb := { clock with us := 36000000500 }
  ag := { base.ag with
    refState := .locked, message := some tenMessage, lastMinute := some ⟨9000, minute, ⟨940, 427⟩⟩
    prevMark := some ⟨.reference, ⟨940, 427⟩, some 60⟩ } }

/-- A station without an hour bell, taking a SET_TIME. -/
def bare (t : Station) : State := on (hearing { t with cfg := { cfg with hourBell := none } })

/-- A CUE that went undelivered. -/
def undelivered (r : Record) : Record := { r with origin := .localCue, frameState := .undelivered }

/-- A station with a record in slot 1, taking a frame. -/
def hearsWith (r : Record) : State := on (hearing (withRecord 1 r))

/-- A tune's key of 10:00. -/
def tenKey : Key := ⟨.tune, 250, 0, 9000, 600⟩

/-- The hour of 10:00 as it plays, its second deadline a cycle ahead, bell 1 held. -/
def hourPlays : Record := { holding waitingHour with state := .playing, deadline2 := some ⟨1000, 101⟩ }

/-- Bell 1, held by the hour. -/
def hourBell : Channel := { heldBell with holder := .perf 0 0 }

/-- A station with both, taking a frame. -/
def hourWaitsAgain : State := on (hearing { withRecord 0 hourPlays with channels := base.channels.set 0 hourBell })

/-- START arguments of a tune. -/
def tuneArgs (number beat : Nat) : List Byte := [0, BitVec.ofNat 8 number] ++ bytesOf 2 beat

/-- Bell 1 without rest for 100 ms and a cycle. -/
def losing (c : Channel) : Channel := { c with restTaken := false, lostAt := some ⟨999, 29591⟩ }

/-- A tune's record with one entry out, bell 1 held. -/
def playsOne : Record := holding (oneOut (record tuneKey .playing 0 true))

/-- A tune's note waits on bell 1 behind slot 2, or behind PANEL. -/
def losingWaits (h : Holder) : Channel := losing { bell with holder := h, waiting := some lateNote, queue := [slotEntry 0 .quarter] }

/-- A station with the claimant in slot 1, a holder in slot 2 and that bell. -/
def bothPlay (h : Holder) : State := on { base with
  pf := { base.pf with table := (base.pf.table.set 1 (some claimant)).set 2 (some { playsOne with key := chimeKey }) }
  channels := base.channels.set 0 (losingWaits h) }

/-- A dial boundary with a quiet period, so many amperes in the view. -/
def quietDial (x : Dial) (amps : Nat) : State := on { (dialDue x).st with
  sup := { base.sup with quietEnd := some ⟨1100, 0⟩, draws := [⟨14, 0, amps, false, 150, none⟩] } }

/-- A dial that seeks, its pulse at its end. -/
def seekEnds (seeks : Nat) : Dial := { seeking with
  seeks := seeks, lastBegin := some ⟨999, 100⟩, pulseEnd := some ⟨1000, 100⟩ }

/-- Twelve minutes past midnight: the target is 24. -/
def pastMidnight (us : Nat) (t : Station) : Station := { t with tb := { clock with us := us } }

/-- A heard entry at its expiry, a draw waiting, and a quiet period. -/
def expiryPlaces (amount : Nat) : State := on { base with sup := { base.sup with
  quietEnd := some ⟨1100, 0⟩, waiting := [waitingDraw amount false]
  draws := [heardDraw 150, ⟨13, 0, 20, false, 150, none⟩] } }

/-- The slot of the DRAW of a queued claim. -/
def drawSlot (amount : Nat) : QueueSlot := ⟨.draw 0 amount 150 .new, 4, 0, 0⟩

/-- A station with it that takes a frame. -/
def claims (amount : Nat) : State := on (hearing { asks amount with bus := { base.bus with queue := [drawSlot amount], nextAge := 5 } })

/-- A dial waiting for its draw. -/
def waitingDial (position : Option Nat) : Dial := { Dial.cold with
  state := .waitingSupply, draw := .pending, position := position, seeks := 3 }

/-- The pending item of dial 0. -/
def dialItemWaits : PendingDraw := { queuedDraw 5 with id := 8 }

/-- The station that sends its DRAW. -/
def dialDrawSent (position : Option Nat) : State := trying { withDial (waitingDial position) with
  sup := { base.sup with waiting := [dialItemWaits] } } 0 0 (.draw 8 5 150 .new)

/-- ADD_NOTES arguments with two notes. -/
def twoNotes (second : Note) : List Byte := 250 :: (Note.bytes ⟨16, 1, 4, .none⟩ ++ second.bytes)

/-- A station that hears station 14 and follows none, its time valid or not. -/
def followsNone (valid : Bool) : Station := { (peerLate .searching).st with
  tb := { clock with valid := valid }, ag := { (peerLate .searching).st.ag with followed := none } }

/-- A station that hears station 14 and follows another. -/
def followsOf (n : Nat) (p : Peer) : Station := { followsNone true with ag := { (followsNone true).ag with
  followed := some n, peers := (followsNone true).ag.peers.set n (some p) } }

/-- A station that has lost a peer. -/
def forgets (n : Nat) (t : Station) : Station := { t with ag := { t.ag with peers := t.ag.peers.set n none } }

/-- A station whose time is unset. -/
def untimed (t : Station) : Station := { t with tb := { t.tb with valid := false } }

/-! ## States of single witnesses -/

/-- Of `witness_rate_in`. -/
def rateInCase := { base with ag := { base.ag with rateRem := 3 } }

/-- Of `witness_set_time_locked`. -/
def setTimeLockedCase := on (hearing { base with ag := { base.ag with refState := .locked } })

/-- Of `witness_start_state`. -/
def startStateCase := on (hearing { base with tb := { clock with valid := false } })

/-- Of `witness_feed_fault`. -/
def feedFaultCase := { bell with state := .faulted }

/-- Of `witness_feed_queued`. -/
def feedQueuedCase := { bell with holder := .perf 1 3, queue := List.replicate 11 fedEntry }

/-- Of `witness_feed_full`. -/
def feedFullCase := { bell with holder := .perf 1 3, queue := List.replicate 12 fedEntry }

/-- Of `witness_feed_yielded`. -/
def feedYieldedCase := { bell with holder := .perf 2 3, queue := [fedEntry] }

/-- Of `witness_feed_waits`. -/
def feedWaitsCase := { bell with holder := .perf 2 3, queue := [fedEntry], openPhrase := true }

/-- Of `witness_feed_occupied`. -/
def feedOccupiedCase := { bell with holder := .panel, waiting := some ⟨fedEntry, 1, 3⟩ }

/-- Of `witness_feed_ousts`. -/
def feedOustsCase := { bell with holder := .panel, waiting := some ⟨fedEntry, 2, 3⟩ }

/-- Of `witness_pulse_end`. -/
def pulseEndCase := on (withBell { bell with state := .striking, pulseEnd := some ⟨1000, 100⟩ })

/-- Of `witness_pulse_end`. -/
def pulseEndCase2 := { bell with state := .striking, pulseEnd := some ⟨1000, 100⟩ }

/-- Of `witness_pulse_end_ready`. -/
def pulseEndReadyCase := on (resting (withBell { bell with state := .striking, pulseEnd := some ⟨1000, 100⟩ }))

/-- Of `witness_rest_early`. -/
def restEarlyCase := on (resting (withBell { settling false with lastLaunch := some ⟨999, 16485⟩ }))

/-- Of `witness_rest_early`. -/
def restEarlyCase2 := { settling false with lastLaunch := some ⟨999, 16485⟩ }

/-- Of `witness_loss_limit`. -/
def lossLimitCase := on (withBell { bell with restTaken := false, lostAt := some ⟨999, 29591⟩ })

/-- Of `witness_loss_limit`. -/
def lossLimitCase2 := { bell with restTaken := false, lostAt := some ⟨999, 29591⟩ }

/-- Of `witness_recheck`. -/
def recheckCase := on (hearing (resting (withBell { bell with state := .faulted })))

/-- Of `witness_dial_set`. -/
def dialSetCase := on (hearing (withDial { hands 5 with state := .faulted, seeks := 1440 }))

/-- Of `witness_dial_set`. -/
def dialSetCase2 := { hands 5 with state := .faulted, seeks := 1440 }

/-- Of `witness_scene_lights`. -/
def sceneLightsCase := { Circuit.cold with state := .off }

/-- Of `witness_draw_placed`. -/
def drawPlacedCase := { waitingDraw 20 false with queued := true }

/-- Of `witness_feedback_stuck`. -/
def feedbackStuckCase := on (closed (withCircuit { lit .off with closed := false, draw := .none }))

/-- Of `witness_feedback_stuck`. -/
def feedbackStuckCase2 := { lit .off with closed := false, draw := .none }

/-- Of `witness_store_completes`. -/
def storeCompletesCase := on { base with pg := storing }

/-- Of `witness_store_fails`. -/
def storeFailsCase := on { base with pg := { twoTunes with storing := storing.storing } }

/-- Of `witness_supply_falls`. -/
def supplyFallsCase := on (withBell { bell with state := .striking, pulseEnd := some ⟨1000, 200⟩ })

/-- Of `witness_clear_summary`. -/
def clearSummaryCase := on (hearing { base with panel := { base.panel with summary := 0x1FFFF } })

/-- Of `witness_second_bounds`. -/
def secondBoundsCase := { clock with rate := -200000, rho := -999, slew := 2000000 }

/-- Of `witness_mark_moments`. -/
def markMomentsCase := { cfg with number := 14, markPeriod := 32 }

/-- Of `witness_hour_none`. -/
def hourNoneCase := { hourDue with st := { hourDue.st with cfg := { cfg with hourBell := some 3 } } }

/-- Of `witness_dusk`. -/
def duskCase := { Programme.cold with dusk := (List.range 46).map fun k => some (30 * k) }

/-- Of `witness_reads_a_start_bit0`. -/
def readsAStartBit0Case := on { base with bus := { base.bus with wait := .afterFrame } }

/-- Of `witness_duplicate`. -/
def duplicateCase := on (hearing { base with seq := { base.seq with state := .listening } })

/-- Of `witness_halt_aborts`. -/
def haltAbortsCase := on (hearing (withRecord 0 { hourWaits with key := ⟨.hour, 0, 0, 9000, 600⟩ }))

/-- Of `witness_last_chime_ends`. -/
def lastChimeEndsCase := on { base with pf := { base.pf with table := (base.pf.table.set 0 (some hourWaits)).set 1 (some (record chimeKey .ending 0 true)) } }

/-- Of `witness_hour_deadline1`. -/
def hourDeadline1Case := on (withRecord 0 { waitingHour with deadline2 := none })

/-- Of `witness_hour_deadline1`. -/
def hourDeadline1Case2 := { waitingHour with deadline2 := none }

/-- Of `witness_launch2`. -/
def launch2Case := on (withBell { panelBell 500000 with lastLaunch := some ⟨999, 16484⟩ })

/-- Of `witness_launch2`. -/
def launch2Case2 := { panelBell 500000 with lastLaunch := some ⟨999, 16484⟩ }

/-- Of `witness_launch_held2`. -/
def launchHeld2Case := on (withBell { panelBell 0 with lastLaunch := some ⟨999, 16485⟩ })

/-- Of `witness_launch_held2`. -/
def launchHeld2Case2 := { panelBell 0 with lastLaunch := some ⟨999, 16485⟩ }

/-- Of `witness_dial_renewal_known`. -/
def dialRenewalKnownCase := on (drawing 8 5 (withDial { catching with renewalDue := some ⟨1000, 100⟩ }))

/-- Of `witness_dial_renewal_known`. -/
def dialRenewalKnownCase2 := { catching with renewalDue := some ⟨1000, 100⟩ }

/-- Of `witness_launch_hour`. -/
def launchHourCase := on (recordAnd (oneOut { waitingHour with state := .ending }) (slotBell 1000001 .hour))

/-- Of `witness_launch_hour`. -/
def launchHourCase2 := oneOut { waitingHour with state := .ending }

/-- Of `witness_fault_told_both`. -/
def faultToldBothCase := { playsOne with key := chimeKey }

/-- Of `witness_dial_asks2`. -/
def dialAsks2Case := quietDial { hands 1198 with position := none } 45

/-- Of `witness_dial_asks2`. -/
def dialAsks2Case2 := { hands 1198 with position := none }

/-- Of `witness_seek_pulse_begins`. -/
def seekPulseBeginsCase := on (withDial { seeking with lastBegin := some ⟨998, 100⟩ })

/-- Of `witness_seek_pulse_begins`. -/
def seekPulseBeginsCase2 := { seeking with lastBegin := some ⟨998, 100⟩ }

/-- Of `witness_reconciled_idle`. -/
def reconciledIdleCase := oneEntry (offsetEntry 180) { base with seq := { base.seq with state := .listening } }

/-- Of `witness_jump_counts`. -/
def jumpCountsCase := oneEntry ⟨.weekly 127, .tune 630 250 0⟩ { base with tb := { clock with offset := 60 } }

/-- Of `witness_mark_replaced`. -/
def markReplacedCase := on { markDue.st with bus := twoFrames.bus }

/-- Of `witness_mark_held`. -/
def markHeldCase := on { markDue.st with bus := (attempt 0 0 2 0 .active (.mark (some topMark))).st.bus }

/-- Of `witness_dusk_light`. -/
def duskLightCase := on (oneEntry ⟨.weekly 127, .light (.dusk (-120)) 15⟩ { base with tb := { clock with minuteDue := some ⟨9000, 600, 9000, 600⟩ }, pg := { base.pg with dusk := List.replicate 46 (some 720) } })

/-- Of `witness_fired_lately`. -/
def firedLatelyCase := on { minuteDue.st with pg := { base.pg with calendar := some ⟨tuneEntry, [some ⟨⟨4294964396, 100⟩, 600⟩]⟩ :: List.replicate 95 none } }

/-- Of `witness_select_none`. -/
def selectNoneCase := { base with tb := { clock with valid := false } }

/-- Of `witness_launch_hour_on`. -/
def launchHourOnCase := on (recordAnd (oneOut { waitingHour with state := .playing }) (slotBell 5000000 .hour))

/-- Of `witness_launch_hour_on`. -/
def launchHourOnCase2 := oneOut { waitingHour with state := .playing }

/-- Of `witness_set_time_unset`. -/
def setTimeUnsetCase := on (hearing (untimed (withDial { hands 5 with seeks := 9, misses := 1 })))

/-- Of `witness_set_time_unset`. -/
def setTimeUnsetCase2 := { hands 5 with seeks := 9, misses := 1 }

/-- Of `witness_set_ahead`. -/
def setAheadCase := on (hearing (withDial { hands 5 with seeks := 9, misses := 1 }))

/-- Of `witness_set_waits`. -/
def setWaitsCase := on (hearing ({ withDial { hands 5 with seeks := 9, misses := 1 } with cfg := { cfg with budget := 4 } }))

/-- Of `witness_set_seeks`. -/
def setSeeksCase := on (hearing (drawing 8 5 (withDial { hands 1439 with state := .catchingUp, draw := .live, misses := 1, renewalDue := some ⟨1050, 0⟩ })))

/-- Of `witness_set_seeks`. -/
def setSeeksCase2 := { hands 1439 with state := .catchingUp, draw := .live, misses := 1, renewalDue := some ⟨1050, 0⟩ }

/-- Of `witness_set_still_waits`. -/
def setStillWaitsCase := on (hearing ({ withDial { waitingDial (some 5) with seeks := 0 } with sup := { base.sup with waiting := [{ dialItemWaits with queued := false }] } }))

/-- Of `witness_set_still_waits`. -/
def setStillWaitsCase2 := { waitingDial (some 5) with seeks := 0 }

/-- Of `witness_set_cancels`. -/
def setCancelsCase := { dialItemWaits with queued := false }

/-- Of `witness_scene_recovers`. -/
def sceneRecoversCase := on (hearing ({ withCircuit { Circuit.cold with state := .faulted } with pg := { base.pg with scenes := List.replicate 15 0 ++ [16] } }))

/-- Of `witness_scene_recovers`. -/
def sceneRecoversCase2 := { Circuit.cold with state := .faulted }

/-- Of `witness_scene_keeps_lit`. -/
def sceneKeepsLitCase := on (hearing ({ withCircuit (lit .on) with pg := { base.pg with scenes := List.replicate 15 0 ++ [16] } }))

/-- Of `witness_scene_cancels`. -/
def sceneCancelsCase := on (hearing ({ withCircuit waitingCircuit with sup := { (withCircuit waitingCircuit).sup with waiting := [waitingDraw 20 false] } }))

/-- Of `witness_scene_clears_fault`. -/
def sceneClearsFaultCase := on (hearing (withCircuit { Circuit.cold with state := .faulted }))

/-- Of `witness_scene_keeps_fault`. -/
def sceneKeepsFaultCase := on (hearing (closed (withCircuit { Circuit.cold with state := .faulted })))

/-- Of `witness_scene_stays_dark`. -/
def sceneStaysDarkCase := on (hearing (withCircuit { Circuit.cold with state := .off, wanted := true }))

/-- Of `witness_scene_stays_dark`. -/
def sceneStaysDarkCase2 := { Circuit.cold with state := .off, wanted := true }

/-- Of `witness_entry_own_far`. -/
def entryOwnFarCase := on { (listeningEnds true).st with cfg := cfg, tb := { clock with us := 36300000001 } }

/-- Of `witness_entry_suppressed`. -/
def entrySuppressedCase := on { (listeningEnds true).st with cfg := cfg, pf := { base.pf with lastHour := some ⟨0, 0⟩ } }

/-- Of `witness_entry_makes_hour`. -/
def entryMakesHourCase := on { (listeningEnds true).st with cfg := cfg, tb := { clock with us := 36300000000 } }

/-- Of `witness_entry_renews`. -/
def entryRenewsCase := on { (listeningEnds false).st with dials := overlapping 998 :: base.dials.drop 1, sup := (drawing 0 10 (withCircuit (lit .on))).sup }

/-- Of `witness_entry_flags`. -/
def entryFlagsCase := on (muted { (listeningEnds false).st with dials := overlapping 998 :: base.dials.drop 1, sup := (drawing 0 10 (withCircuit (lit .on))).sup })

/-- Of `witness_entry_holds`. -/
def entryHoldsCase := on { (listeningEnds false).st with dials := hands 5 :: base.dials.drop 1 }

/-- Of `witness_entry_at_target`. -/
def entryAtTargetCase := on { (listeningEnds true).st with dials := hands 1200 :: base.dials.drop 1 }

/-- Of `witness_entry_seeks`. -/
def entrySeeksCase := on { (listeningEnds false).st with dials := { Dial.cold with state := .holding } :: base.dials.drop 1 }

/-- Of `witness_entry_seeks`. -/
def entrySeeksCase2 := { Dial.cold with state := .holding }

/-- Of `witness_entry_seek_waits`. -/
def entrySeekWaitsCase := on { (listeningEnds false).st with dials := { Dial.cold with state := .holding } :: base.dials.drop 1, cfg := { cfg with hourBell := none, budget := 9 } }

set_option maxRecDepth 20000

/-! ## Ill-formed commands are refused by the check -/

theorem smoke_receive_error : WellFormed.check (.receiveError (List.replicate 157 true)) = false := by decide

theorem smoke_sources : WellFormed.check (.markReceived 16 (List.replicate 9 0)) = false ∧
    WellFormed.check (.cueReceived 16 (List.replicate 12 0)) = false ∧ WellFormed.check (.haltKeyReceived 16 (List.replicate 6 0)) = false ∧
    WellFormed.check (.haltSilenceReceived 16 (List.replicate 6 0)) = false ∧ WellFormed.check (.haltResumeReceived 16 (List.replicate 6 0)) = false ∧
    WellFormed.check (.drawReceived 16 [0, 0, 0]) = false ∧ WellFormed.check (.freeReceived 16 [0]) = false ∧
    WellFormed.check (.answerReceived 16 [0, 0, 0, 0]) = false ∧ WellFormed.check (.frameDiscarded 16) = false := by decide

theorem smoke_lengths : WellFormed.check (.markReceived 3 (List.replicate 8 0)) = false ∧
    WellFormed.check (.cueReceived 3 (List.replicate 11 0)) = false ∧ WellFormed.check (.haltKeyReceived 3 (List.replicate 5 0)) = false ∧
    WellFormed.check (.haltSilenceReceived 3 (List.replicate 7 0)) = false ∧ WellFormed.check (.haltResumeReceived 3 []) = false ∧
    WellFormed.check (.drawReceived 3 [0, 0, 0, 0]) = false ∧ WellFormed.check (.freeReceived 3 []) = false ∧
    WellFormed.check (.answerReceived 3 [0, 0, 0]) = false ∧ WellFormed.check (.answerReceived 3 (List.replicate 13 0)) = false ∧
    WellFormed.check (.referenceMessage (List.replicate 7 0) true) = false := by decide

theorem smoke_numbers : WellFormed.check (.peerExpiry 15) = false ∧ WellFormed.check (.drawEntryExpiry 15 0) = false ∧
    WellFormed.check (.drawEntryExpiry 0 16) = false ∧ WellFormed.check (.pendingWaitLong 6) = false ∧
    WellFormed.check (.pendingWaitLong 12) = false ∧ WellFormed.check (.performancePlay 6) = false ∧
    WellFormed.check (.noteFeed 6) = false ∧ WellFormed.check (.performanceEnd 6) = false ∧ WellFormed.check (.hammerLaunch 8) = false ∧
    WellFormed.check (.lateLimitExpiry 8) = false ∧ WellFormed.check (.waitingNoteExpiry 8) = false ∧
    WellFormed.check (.hammerPulseEnd 8) = false ∧ WellFormed.check (.returnSensorRest 8) = false ∧
    WellFormed.check (.repeatIntervalPassed 8) = false ∧ WellFormed.check (.returnTimeout 8) = false ∧
    WellFormed.check (.returnSensorLoss 8) = false ∧ WellFormed.check (.restLossLimit 8) = false := by decide

theorem smoke_units : WellFormed.check (.dialPulseBegin 4) = false ∧ WellFormed.check (.dialPulseEnd 4) = false ∧
    WellFormed.check (.dialRenewalDue 4) = false ∧ WellFormed.check (.circuitStartEnd 6) = false ∧
    WellFormed.check (.feedbackCheck 6) = false ∧ WellFormed.check (.circuitRenewalDue 6) = false ∧
    WellFormed.check (.storeComplete (some 4) []) = false ∧ WellFormed.check (.loadingEnd true [(16384, 0)]) = false := by decide

theorem smoke_asks : WellFormed.check (.status ⟨16, 3, 9⟩ []) = false ∧ WellFormed.check (.readTime ⟨14, 256, 9⟩ []) = false ∧
    WellFormed.check (.restart ⟨14, 3, 256⟩ []) = false ∧ WellFormed.check (.addNotes ask (List.replicate 10 0)) = false ∧
    WellFormed.check (.writeItemCalendar ask [16]) = false ∧ WellFormed.check (.writeItemDusk ask [32]) = false ∧
    WellFormed.check (.writeItemScene ask [0]) = false ∧ WellFormed.check (.unknownRequest ask 20 []) = false ∧
    WellFormed.check (.unknownRequest ask 256 []) = false := by decide

theorem smoke_well_formed : WellFormed.check (.markReceived 14 (List.replicate 9 0)) = true ∧
    WellFormed.check (.writeItemCalendar ask (calendarArgs 1 95 (tollBytes.drop 7))) = true ∧
    WellFormed.check (.unknownRequest ask 0 []) = true ∧ WellFormed.check (.loadingEnd false [(16383, 1)]) = true := by decide

/-! ## One command on a small state, expected values from the manual's worked tables -/

/-- The station after a command. -/
def after (c : Instr) (s : State) : Station :=
  match exec c s with
  | .next t => t.st
  | _ => s.st

/-- The correction of R7's first worked case: q = 39, r = 2,688, S spent. -/
theorem test_local_second : let t := (after .localSecondBoundary (on { base with tb := { clock with secondDue := true, rate := 1250, slew := 2500 } })).tb
    t.q = 39 ∧ t.r = 2688 ∧ t.slew = 0 ∧ t.rho = 0 := by decide

/-- R7's third worked case: dividend −639,188 leaves ρ = −188; with no slew −639 = −1 × 32,768 + 32,129. -/
theorem test_local_second_remainder : let t := (after .localSecondBoundary (on { base with tb := { clock with secondDue := true, rate := -1249, rho := 300 } })).tb
    t.rho = -188 ∧ t.q = -1 ∧ t.r = 32129 := by decide

/-- R18: 800 × 512 + 400 = 410,000 gives q1 = 410 and ρ = 0. -/
theorem test_backup_second : let t := (after .backupSecondBoundary (on { base with
      tb := { clock with backupDue := true, rate := 800, rho := 400 }, seq := { base.seq with state := .supplyWait } })).tb
    t.q = 0 ∧ t.r = 410 ∧ t.rho = 0 := by decide

/-- A cycle below r gains 15,625 + q + 1 tick units: 15,665 with q = 39, that is 30 µs and 305 units. -/
theorem test_crystal_cycle : let t := (after (.crystalCycle ⟨0, 0, 0, true⟩) (on { base with tb := { clock with q := 39, r := 2688 } })).tb
    t.us = 36000000030 ∧ t.frac = 305 ∧ t.run = ⟨1000, 101⟩ := by decide

/-- R12's worked case. -/
theorem test_civil_time : let t := TowerTime.civil ⟨9000, 84600000000⟩ 60
    t = ⟨9001, 1800000000⟩ ∧ t.minute = 30 := by decide

/-- R13's worked dates. -/
theorem test_dates : yearOf 9000 = 2024 ∧ dayOfYear 9000 = 234 ∧ weekday 9000 = 3 ∧ yearOf 9500 = 2026 ∧ dayOfYear 9500 = 3 ∧
    weekday 9500 = 6 ∧ yearOf 1460 = 2003 ∧ dayOfYear 1460 = 364 ∧ weekday 1460 = 2 := by decide

/-- R21's phases, station 5 with P = 16 s and station 3 with P = 8 s. -/
theorem test_tower_second : (after .towerSecond (on { base with
      tb := { clock with towerSecondDue := some ⟨9000, 36001000000⟩ } })).ag.armed = some (.tower ⟨9000, 36001500000⟩) ∧
    (StationBlock.markIn { cfg with number := 5, markPeriod := 16 } 9000 5) = some ⟨9000, 5000000⟩ := by decide

/-- R34's worked case of steady following: Δ = −749, R = −5. -/
theorem test_rate_update : let t := Station.updateRate { base with ag := { base.ag with rateRem := 11 } } (-48) (some 16) 16
    t.tb.rate = -749 ∧ t.ag.rateRem = -5 := by decide

/-- R35's worked case of the clamp. -/
theorem test_rate_clamp : let t := Station.updateRate { base with tb := { clock with rate := 199600 } } 2000 (some 16) 16
    t.tb.rate = 200000 ∧ t.ag.rateRem = 0 ∧ t.panel.flag .rateLimit = true := by decide

/-- R33's two examples of τ. -/
theorem test_tau : tauOf ⟨0, 0⟩ ⟨16, 12⟩ = 16 ∧ tauOf ⟨0, 0⟩ ⟨16, 16384⟩ = 17 := by decide

/-- R31: an offset of exactly −2,000,000 µs steps, and the record is set with no τ. -/
theorem test_mark_received : let t := (after (.markReceived 14 (bytesOf 2 9000 ++ bytesOf 5 35997996948 ++ [0x50, 15]))
      (on (hearing { base with ag := { base.ag with followed := some 14, rateRem := 7 } })))
    t.tb.us = 35998000000 ∧ t.panel.count .steps = 1 ∧ t.ag.prevMark = some ⟨.station 14, ⟨1000, 0⟩, none⟩ ∧ t.ag.rateRem = 0 := by decide

/-- R90's START of a toll, 1,500 ms after its capture, sends its CUE. -/
theorem test_start : (after (.start ask (tollArgs 1)) cueStation).bus.queue.length = 2 := by decide

/-- R97's three worked delays. -/
theorem test_note_delay : noteDelay 37 600 = 1387500 ∧ noteDelay 3 333 = 62438 ∧ noteDelay 2400 600 = 90000000 := by decide

/-- R103's strokes: three at 15:00, twelve at midnight and at noon. -/
theorem test_hour_strokes : hourStrokes 15 = 3 ∧ hourStrokes 0 = 12 ∧ hourStrokes 12 = 12 := by decide

/-- R134's worked table: dusk 1,146 on day 100, 1,200 on day 164, 1,001 on day 365. -/
def duskTable : Programme := { Programme.cold with
  dusk := some 1000 :: (List.replicate 11 (some 1000) ++ [some 1142, some 1150] ++ List.replicate 6 (some 1000) ++ [some 1203, some 1198] ++
    List.replicate 23 (some 1000) ++ [some 1002]) }

theorem test_dusk : duskTable.duskMinute 100 = 1146 ∧ duskTable.duskMinute 164 = 1200 ∧ duskTable.duskMinute 365 = 1001 := by decide

/-- The spring change of 7.11: at 01:00:00 of day 9,218 the dial takes its single pulse from 119 to 120. -/
theorem test_dial_boundary : let t := (after .dialBoundary (on { withDial { hands 119 with polarity := .negative } with
      tb := { clock with day := 9218, us := 3600000000, dialDue := some 3600 } })).dial 0
    t.state = .pulsing ∧ t.position = some 120 ∧ t.polarity = .positive := by decide

/-- The same dial after the civil jump of 60 minutes: at its pulse end it asks for a draw with hold 150 s. -/
theorem test_dial_pulse_end : let t := after (.dialPulseEnd 0) (on { withDial { pulsing 120 0 false with polarity := .positive } with
      tb := { clock with day := 9218, us := 3600400000, offset := 60 } })
    (t.dial 0).state = .waitingSupply ∧ (t.sup.item 8).map (·.hold) = some 150 ∧ (t.sup.item 8).map (·.amount) = some 5 := by decide

/-- Renewals of that catch-up: distances 64, 36 and 8 at 2 s give holds of 138, 82 and 26 s. -/
theorem test_catch_up_holds : catchUpHold 64 2 = 138 ∧ catchUpHold 36 2 = 82 ∧ catchUpHold 8 2 = 26 ∧ catchUpHold 120 2 = 150 := by decide

/-- The autumn change of 7.11: at 120 steps ahead the dial holds. -/
theorem test_dial_boundary_ahead : let t := (after .dialBoundary (on { withDial (hands 240) with
      tb := { clock with us := 3630000000, dialDue := some 3630 } })).dial 0
    t.state = .holding ∧ t.position = some 240 := by decide

/-- 11.1: arbitration words of station 3, and the length of a MARK from its start bit to its end field, 126 bits. -/
theorem test_words : Frame.word 3 (.halt .silence) = 19 ∧ Frame.word 3 (.free 1) = 323 ∧ Frame.word 3 (.draw 0 1 1 .new) = 339 ∧
    Frame.word 3 (.cue tuneKey 0 0 0) = 291 ∧ (frameBits (Frame.word 3 (.mark (some topMark))) topMark.bytes).length + 1 = 126 := by decide

/-- R55: 64 spans of 12 recessive bits. -/
theorem test_mute_recovery : (after (.muteRecovery (List.replicate 12 true)) (on { base with bus := { base.bus with
      state := .mute, send := 263, spans := 63 } })).bus.state = .active := by decide

/-- R53: a CHECK error counts one on the hear count. -/
theorem test_receive_error : (after (.receiveError badSync) (on (hearing base))).bus.hear = 1 := by decide

/-- R54: the send count reaches 96 with the error that makes it 96 or more, and the bus becomes GUARDED. -/
theorem test_attempt_error : let t := after (.attemptError .bit) (attempt 88 0 0 0 .active (.free 1))
    t.bus.send = 96 ∧ t.bus.state = .guarded ∧ t.panel.flag .busGuarded = true := by decide

/-- R36: a message of the fixed start byte, the number of day 9,000, minute 600 and their check byte is held. -/
theorem test_reference_message : (after (.referenceMessage goodMessage true) (peerLate .searching)).ag.message = some ⟨9000, 600, ⟨1000, 100⟩⟩ := by
  decide

/-- The worked load of chapter 6: note n6 at offset 12 after n5 at 24 is ignored, counted, and answered RANGE. -/
theorem test_add_notes : let t := after (.addNotes ask (noteArgs 1 12)) (programmed (opened false))
    t.panel.count .loadRefusals = 1 ∧ t.pg.notes.length = 1 ∧
      t.bus.queue.map (·.frame) = [.answer 14 9 7 .range [] false] := by decide

/-- The same load: a foreign note is counted and moves the last offset. -/
theorem test_add_notes_foreign : let t := after (.addNotes ask (noteArgs 64 16)) (programmed (opened false))
    t.panel.count .foreignNotes = 1 ∧ t.pg.notes.length = 1 := by decide

/-- R75: a hammer launched strikes for the width of its velocity; 50 ms end with cycle 1,639, the first full one. -/
theorem test_hammer_launch : let t := (after (.hammerLaunch 0) (on (withBell (panelBell 0)))).channel 0
    t.state = .striking ∧ t.pulseEnd = some ⟨1000, 1739⟩ ∧ t.queue = [] ∧ t.lastLaunch = some ⟨1000, 100⟩ := by decide

/-- R97: the record's start less 1,500 ms is reached. -/
theorem test_performance_play : ((after (.performancePlay 1) (on (oneTune 3 (withRecord 1 (record tuneKey .cued 1500000 true))))).record 1).map
    (·.state) = some .playing := by decide

/-- The same a microsecond earlier: still CUED. -/
theorem test_performance_play_early : ((after (.performancePlay 1) (on (withRecord 1 (record tuneKey .cued 1500001 true)))).record 1).map
    (·.state) = some .cued := by decide

/-- R109: SILENCE ends the CUED record and sets the silenced flag; RESUME clears it. -/
theorem test_silence : (after (.silence ask []) silenceMe).pf.silenced = true ∧ (after (.silence ask []) silenceMe).record 1 = none ∧
    (after (.resume ask []) (on (hearing { base with pf := { base.pf with silenced := true } }))).pf.silenced = false := by decide

/-- R164: the 39th heard entry finds the list full, and the view is incomplete. -/
theorem test_draw_received : let t := after (.drawReceived 14 [14, 255, 1]) (on (hearing (withDraws (heardDraw 150 :: manyDraws))))
    t.sup.incomplete = true ∧ t.sup.draws.length = 38 := by decide

/-- R176: the first supply after a loss of backup is a COLD start into CHECKING. -/
theorem test_start_moment : let t := after .startMoment (waitingSupply true false)
    t.seq.state = .checking ∧ t.seq.kind = .cold ∧ t.tb.valid = false ∧ t.tb.run = ⟨0, 0⟩ := by decide

/-- R176: with the backup valid it is a RESTORE, which keeps tower time. -/
theorem test_start_moment_restore : let t := after .startMoment (waitingSupply true true)
    t.seq.kind = .restore ∧ t.tb.us = 36000000000 ∧ t.tb.valid = true := by decide

/-- R179: with no good station block the station is UNCONFIGURED. -/
theorem test_loading_end : (after (.loadingEnd true []) (loading [])).seq.state = .unconfigured := by decide +kernel

/-- LOADING_END with a rewritten byte outside the memory stops by name (log 7). -/
theorem test_loading_end_absent : exec (.loadingEnd true [(16384, 1)]) (loading []) = .fault (.noSuchMemoryByte 16384) := by rfl

/-- R187: STATUS page 3 does not exist. -/
theorem test_status : (after (.status ask [3]) (on (hearing base))).bus.queue.map (·.frame) = [.answer 14 9 1 .range [] false] := by decide

/-- A request for another station is heard and not answered. -/
theorem test_status_foreign : (after (.status ⟨14, 4, 9⟩ [0]) (on (hearing base))).bus.queue = [] := by decide

/-- R183: RESTART of all stations makes the restart at once and answers nothing. -/
theorem test_restart : let t := after (.restart askAll []) (on (hearing base))
    t.seq.state = .listening ∧ t.bus.queue = [] ∧ t.panel.restartDue = false := by decide

/-- The 16-bit check word of the nine digits is 29B1H (the value usually given for this polynomial and start value). -/
theorem test_check_word : blockCheck [0x31, 0x32, 0x33, 0x34, 0x35, 0x36, 0x37, 0x38, 0x39] = 0x29B1 := by decide

/-- The queue is taken from the front, and withFetchWord leaves it as it is (log 37). -/
theorem test_step : step ⟨[.civilQuarter, .restartLine], [], quarterDue.st⟩ = .next ⟨[.restartLine], [], after .civilQuarter quarterDue⟩ := by rfl

theorem test_with_fetch_word : (on base).withFetchWord 16 5 = on base := by rfl

/-! ## Witnesses: the hypotheses of the statements hold together somewhere -/

/-- The hypotheses of `Obligations.StepRunsFrontCommand`, clause 1. -/
theorem witness_step_runs_the_front :
    ({ pending := [Instr.restartLine, Instr.civilHour], mem := [], st := base : State }.pending =
  [Instr.restartLine, Instr.civilHour]) := by decide

/-- The hypotheses of `Obligations.StepRunsFrontCommand`, clause 2. -/
theorem witness_step_idles :
    ((on base).pending = []) := by decide

/-- The hypotheses of `Obligations.FieldsReadBack`, clause 1. -/
theorem witness_key_reads_back :
    (topKey.number < 256) ∧
    (topKey.quarter < 8) ∧
    (topKey.day < 65536) ∧
    (topKey.minute < 65536) ∧
    (3 < 4) := by decide

/-- The hypotheses of `Obligations.FieldsReadBack`, clause 2.1.1. -/
theorem witness_mark_reads_back :
    (topMark.day < 65536) ∧
    (topMark.us < 1099511627776) ∧
    (topMark.stratum < 8) ∧
    (∀ (n : Nat), n ∈ topMark.followed → n < 15) := by decide

/-- The hypotheses of `Obligations.FieldsReadBack`, clause 2.1.2. -/
theorem witness_note_reads_back :
    ({ offset := 65535, bell := 255, velocity := 4, phrase := Phrase.ends : Note }.offset < 65536) ∧
    ({ offset := 65535, bell := 255, velocity := 4, phrase := Phrase.ends : Note }.bell < 256) ∧
    (1 ≤ { offset := 65535, bell := 255, velocity := 4, phrase := Phrase.ends : Note }.velocity) ∧
    ({ offset := 65535, bell := 255, velocity := 4, phrase := Phrase.ends : Note }.velocity ≤ 4) := by decide

/-- The hypotheses of `Obligations.FieldsReadBack`, clause 2.2. -/
theorem witness_entry_reads_back :
    (entryOf tollBytes = some { selector := Selector.weekly 127, work := CalendarWork.toll 1439 64 1000 255 : CalendarEntry }) := by decide

/-- The hypotheses of `Obligations.CrystalCycleAdvances`, clause 1. -/
theorem witness_crystal_cycle :
    (State.settled lateCycle) ∧
    (TimeBase.quiet lateCycle.st.tb) ∧
    (TimeBase.inRange lateCycle.st.tb) ∧
    (lateCycle.st.seq.state ≠ RunState.supplyWait) := by decide

/-- The hypotheses of `Obligations.CrystalCycleAdvances`, clause 2.1. -/
theorem witness_backup_cycle :
    (State.settled lateBackup) ∧
    (TimeBase.quiet lateBackup.st.tb) ∧
    (TimeBase.inRange lateBackup.st.tb) ∧
    (lateBackup.st.seq.state = RunState.supplyWait) := by decide

/-- The hypotheses of `Obligations.MuteRecoversAfter64Spans`, clause 1. -/
theorem witness_mute_ends :
    (State.settled (muteAt 63 11)) ∧
    (Station.running (muteAt 63 11).st = true) ∧
    ((muteAt 63 11).st.bus.state = BusState.mute) ∧
    ((muteAt 63 11).st.bus.current = none) ∧
    ((muteAt 63 11).st.sup.waiting = []) ∧
    (64 ≤ (countSpans (muteAt 63 11).st.bus.spans (muteAt 63 11).st.bus.spanBits [true]).fst) := by decide

/-- The hypotheses of `Obligations.MuteRecoversAfter64Spans`, clause 2.1. -/
theorem witness_mute_goes_on :
    (State.settled (muteAt 63 11)) ∧
    (Station.running (muteAt 63 11).st = true) ∧
    ((muteAt 63 11).st.bus.state = BusState.mute) ∧
    ((countSpans (muteAt 63 11).st.bus.spans (muteAt 63 11).st.bus.spanBits [false, true]).fst < 64) := by decide

/-- The hypotheses of `Obligations.MuteRecoversAfter64Spans`, clause 2.2. -/
theorem witness_mute_count :
    (0 ≤ 64) ∧
    (768 = 768 - 12 * 0) := by decide

/-- The hypotheses of `Obligations.MuteRecoversAfter64Spans`, clause 2.2. -/
theorem witness_mute_count2 :
    (64 ≤ 64) ∧
    (0 = 768 - 12 * 64) := by decide

/-- The hypotheses of `Obligations.MarksFillThePeerTable`, clause 1. -/
theorem witness_mark_locked :
    (State.settled lockedHears) ∧
    (Station.inService lockedHears.st = true) ∧
    (Station.Hears lockedHears.st 14 start) ∧
    (14 < 15) ∧
    (List.length markBytes = 9) ∧
    (lockedHears.st.ag.refState = RefState.locked) := by decide

/-- The hypotheses of `Obligations.MarksFillThePeerTable`, clause 2.1. -/
theorem witness_mark_slews :
    (State.settled followerHears) ∧
    (Station.running followerHears.st = true) ∧
    (Station.Hears followerHears.st 14 start) ∧
    (14 < 15) ∧
    (List.length markBytes = 9) ∧
    (followerHears.st.ag.refState ≠ RefState.locked) ∧
    (followerHears.st.tb.valid = true) ∧
    (followerHears.st.ag.followed = some 14) ∧
    (∀ (p : Option Peer), p ∈ List.set followerHears.st.ag.peers 14 none → p = none) ∧
    (List.length followerHears.st.ag.peers = 15) ∧
    (followerHears.st.ag.prevMark = none) ∧
    (bitOf (byteAt markBytes 7) 4 = true) ∧
    (byteAt markBytes 7 / 32 < 6) ∧
    (byteAt markBytes 8 ≠ followerHears.st.cfg.number) ∧
    (followerHears.st.cfg.number < 15) ∧
    (1003000 =
  TowerTime.diff { day := word16 markBytes 0, us := word40 markBytes 2 : TowerTime }
    { day := start.day, us := start.us : TowerTime }) ∧
    (-2000000 < 1003000) ∧
    (1003000 < 2000000) := by decide

/-- The hypotheses of `Obligations.MarksFillThePeerTable`, clause 2.2.2.2.2.2. -/
theorem witness_rate_update :
    (1 ≤ 255) ∧
    (255 ≤ 255) := by decide

/-- The hypotheses of `Obligations.MarksFillThePeerTable`, clause 2.2.2.2.2.2.2.2.2.1. -/
theorem witness_rate_high :
    (1 ≤ 1) ∧
    (1 ≤ 255) ∧
    (200000 < base.tb.rate + Int.tdiv (1999999 * 250 + if some 8 = some 1 then base.ag.rateRem else 0) (↑1 : Int)) := by decide

/-- The hypotheses of `Obligations.MarksFillThePeerTable`, clause 2.2.2.2.2.2.2.2.2.2. -/
theorem witness_rate_low :
    (1 ≤ 1) ∧
    (1 ≤ 255) ∧
    (base.tb.rate + Int.tdiv (-1999999 * 250 + if none = some 1 then base.ag.rateRem else 0) (↑1 : Int) < -200000) := by decide

/-- The hypotheses of `Obligations.MarksFillThePeerTable`, clause 2.2.2.2.2.2.2.2.1. -/
theorem witness_rate_in :
    (1 ≤ 8) ∧
    (8 ≤ 255) ∧
    (-200000 ≤ rateInCase.tb.rate + Int.tdiv (-1999 * 250 + if some 8 = some 8 then rateInCase.ag.rateRem else 0) (↑8 : Int)) ∧
    (rateInCase.tb.rate + Int.tdiv (-1999 * 250 + if some 8 = some 8 then rateInCase.ag.rateRem else 0) (↑8 : Int) ≤ 200000) := by decide

/-- The hypotheses of `Obligations.SourcesAreChosenAndDropped`, clause 1.1. -/
theorem witness_peer_expires_locked :
    (State.settled (peerLate RefState.locked)) ∧
    (Station.inService (peerLate RefState.locked).st = true) ∧
    (Station.peer (peerLate RefState.locked).st 14 = some oldPeer) ∧
    (RunTime.reached (RunTime.plus oldPeer.markRun (3 * (peerLate RefState.locked).st.cfg.markPeriod * 32768))
    (peerLate RefState.locked).st.tb.run =
  true) ∧
    ((peerLate RefState.locked).st.ag.refState = RefState.locked) := by decide

/-- The hypotheses of `Obligations.SourcesAreChosenAndDropped`, clause 1.2. -/
theorem witness_source_expires :
    (State.settled (peerLate RefState.searching)) ∧
    (Station.inService (peerLate RefState.searching).st = true) ∧
    (Station.peer (peerLate RefState.searching).st 14 = some oldPeer) ∧
    (RunTime.reached (RunTime.plus oldPeer.markRun (3 * (peerLate RefState.searching).st.cfg.markPeriod * 32768))
    (peerLate RefState.searching).st.tb.run =
  true) ∧
    ((peerLate RefState.searching).st.ag.refState ≠ RefState.locked) ∧
    ((peerLate RefState.searching).st.tb.valid = true) ∧
    ((peerLate RefState.searching).st.ag.followed = some 14) ∧
    (∀ (e : Option Peer), e ∈ List.set (peerLate RefState.searching).st.ag.peers 14 none → e = none) := by decide

/-- The hypotheses of `Obligations.SourcesAreChosenAndDropped`, clause 2.1.2. -/
theorem witness_best :
    (Station.best (peerLate RefState.searching).st = some (14, oldPeer)) := by decide

/-- The hypotheses of `Obligations.ReferenceMinutesAreTaken`, clause 1.1. -/
theorem witness_message_good :
    (State.settled (peerLate RefState.searching)) ∧
    (Station.inService (peerLate RefState.searching).st = true) ∧
    ((peerLate RefState.searching).st.ag.refState ≠ RefState.absent) := by decide

/-- The hypotheses of `Obligations.ReferenceMinutesAreTaken`, clause 1.2. -/
theorem witness_message_expires :
    (State.settled
  (withMessage { day := 9000, minute := 600, ended := { sec := 999, cyc := 3376 : RunTime } : RefMessage } none)) ∧
    ((withMessage { day := 9000, minute := 600, ended := { sec := 999, cyc := 3376 : RunTime } : RefMessage }
          none).st.ag.message =
  some { day := 9000, minute := 600, ended := { sec := 999, cyc := 3376 : RunTime } : RefMessage }) ∧
    (900 * 32768 ≤
  RunTime.elapsed { day := 9000, minute := 600, ended := { sec := 999, cyc := 3376 : RunTime } : RefMessage }.ended
      (withMessage { day := 9000, minute := 600, ended := { sec := 999, cyc := 3376 : RunTime } : RefMessage }
              none).st.tb.run *
    1000) := by decide

/-- The hypotheses of `Obligations.ReferenceMinutesAreTaken`, clause 2.1.1. -/
theorem witness_pulse_candidate :
    (State.settled
  (withMessage { day := 9000, minute := 600, ended := { sec := 999, cyc := 3377 : RunTime } : RefMessage } none)) ∧
    (Station.inService
    (withMessage { day := 9000, minute := 600, ended := { sec := 999, cyc := 3377 : RunTime } : RefMessage } none).st =
  true) ∧
    ((withMessage { day := 9000, minute := 600, ended := { sec := 999, cyc := 3377 : RunTime } : RefMessage }
          none).st.ag.refState =
  RefState.searching) ∧
    ((withMessage { day := 9000, minute := 600, ended := { sec := 999, cyc := 3377 : RunTime } : RefMessage }
          none).st.ag.message =
  some { day := 9000, minute := 600, ended := { sec := 999, cyc := 3377 : RunTime } : RefMessage }) ∧
    (200 * 32768 ≤
  RunTime.elapsed { day := 9000, minute := 600, ended := { sec := 999, cyc := 3377 : RunTime } : RefMessage }.ended
      (withMessage { day := 9000, minute := 600, ended := { sec := 999, cyc := 3377 : RunTime } : RefMessage }
              none).st.tb.run *
    1000) ∧
    (RunTime.elapsed { day := 9000, minute := 600, ended := { sec := 999, cyc := 3377 : RunTime } : RefMessage }.ended
      (withMessage { day := 9000, minute := 600, ended := { sec := 999, cyc := 3377 : RunTime } : RefMessage }
              none).st.tb.run *
    1000 ≤
  900 * 32768) ∧
    (∀ (c : RefMinute),
  c ∈
      (withMessage { day := 9000, minute := 600, ended := { sec := 999, cyc := 3377 : RunTime } : RefMessage }
              none).st.ag.candidate →
    TowerTime.diff
        (TowerTime.ofMinute
          { day := 9000, minute := 600, ended := { sec := 999, cyc := 3377 : RunTime } : RefMessage }.day
          { day := 9000, minute := 600, ended := { sec := 999, cyc := 3377 : RunTime } : RefMessage }.minute)
        (RefMinute.time c) ≠
      60000000) := by decide

/-- The hypotheses of `Obligations.ReferenceMinutesAreTaken`, clause 2.1.2. -/
theorem witness_pulse_none :
    (State.settled
  (withMessage { day := 9000, minute := 600, ended := { sec := 999, cyc := 3376 : RunTime } : RefMessage } none)) ∧
    (Station.inService
    (withMessage { day := 9000, minute := 600, ended := { sec := 999, cyc := 3376 : RunTime } : RefMessage } none).st =
  true) ∧
    ((withMessage { day := 9000, minute := 600, ended := { sec := 999, cyc := 3376 : RunTime } : RefMessage }
          none).st.ag.refState ≠
  RefState.absent) ∧
    (∀ (m : RefMessage),
  m ∈
      (withMessage { day := 9000, minute := 600, ended := { sec := 999, cyc := 3376 : RunTime } : RefMessage }
              none).st.ag.message →
    RunTime.elapsed m.ended
            (withMessage { day := 9000, minute := 600, ended := { sec := 999, cyc := 3376 : RunTime } : RefMessage }
                    none).st.tb.run *
          1000 <
        200 * 32768 ∨
      900 * 32768 <
        RunTime.elapsed m.ended
            (withMessage { day := 9000, minute := 600, ended := { sec := 999, cyc := 3376 : RunTime } : RefMessage }
                    none).st.tb.run *
          1000) := by decide

/-- The hypotheses of `Obligations.ReferenceMinutesAreTaken`, clause 2.2.1. -/
theorem witness_pulse_locks :
    (State.settled
  (withMessage { day := 9000, minute := 600, ended := { sec := 999, cyc := 26314 : RunTime } : RefMessage }
    (some { day := 9000, minute := 599, run := { sec := 940, cyc := 427 : RunTime } : RefMinute }))) ∧
    (Station.running
    (withMessage { day := 9000, minute := 600, ended := { sec := 999, cyc := 26314 : RunTime } : RefMessage }
        (some { day := 9000, minute := 599, run := { sec := 940, cyc := 427 : RunTime } : RefMinute })).st =
  true) ∧
    ((withMessage { day := 9000, minute := 600, ended := { sec := 999, cyc := 26314 : RunTime } : RefMessage }
          (some { day := 9000, minute := 599, run := { sec := 940, cyc := 427 : RunTime } : RefMinute })).st.tb.valid =
  true) ∧
    ((withMessage { day := 9000, minute := 600, ended := { sec := 999, cyc := 26314 : RunTime } : RefMessage }
          (some
            { day := 9000, minute := 599, run := { sec := 940, cyc := 427 : RunTime } : RefMinute })).st.ag.refState =
  RefState.searching) ∧
    ((withMessage { day := 9000, minute := 600, ended := { sec := 999, cyc := 26314 : RunTime } : RefMessage }
          (some
            { day := 9000, minute := 599, run := { sec := 940, cyc := 427 : RunTime } : RefMinute })).st.ag.message =
  some { day := 9000, minute := 600, ended := { sec := 999, cyc := 26314 : RunTime } : RefMessage }) ∧
    ((withMessage { day := 9000, minute := 600, ended := { sec := 999, cyc := 26314 : RunTime } : RefMessage }
          (some
            { day := 9000, minute := 599, run := { sec := 940, cyc := 427 : RunTime } : RefMinute })).st.ag.candidate =
  some { day := 9000, minute := 599, run := { sec := 940, cyc := 427 : RunTime } : RefMinute }) ∧
    (200 * 32768 ≤
  RunTime.elapsed { day := 9000, minute := 600, ended := { sec := 999, cyc := 26314 : RunTime } : RefMessage }.ended
      (withMessage { day := 9000, minute := 600, ended := { sec := 999, cyc := 26314 : RunTime } : RefMessage }
              (some
                { day := 9000, minute := 599, run := { sec := 940, cyc := 427 : RunTime } : RefMinute })).st.tb.run *
    1000) ∧
    (RunTime.elapsed { day := 9000, minute := 600, ended := { sec := 999, cyc := 26314 : RunTime } : RefMessage }.ended
      (withMessage { day := 9000, minute := 600, ended := { sec := 999, cyc := 26314 : RunTime } : RefMessage }
              (some
                { day := 9000, minute := 599, run := { sec := 940, cyc := 427 : RunTime } : RefMinute })).st.tb.run *
    1000 ≤
  900 * 32768) ∧
    (TowerTime.diff
    (TowerTime.ofMinute { day := 9000, minute := 600, ended := { sec := 999, cyc := 26314 : RunTime } : RefMessage }.day
      { day := 9000, minute := 600, ended := { sec := 999, cyc := 26314 : RunTime } : RefMessage }.minute)
    (TowerTime.ofMinute { day := 9000, minute := 599, run := { sec := 940, cyc := 427 : RunTime } : RefMinute }.day
      { day := 9000, minute := 599, run := { sec := 940, cyc := 427 : RunTime } : RefMinute }.minute) =
  60000000) ∧
    (1966080 ≤
  RunTime.elapsed { day := 9000, minute := 599, run := { sec := 940, cyc := 427 : RunTime } : RefMinute }.run
      (withMessage { day := 9000, minute := 600, ended := { sec := 999, cyc := 26314 : RunTime } : RefMessage }
              (some
                { day := 9000, minute := 599, run := { sec := 940, cyc := 427 : RunTime } : RefMinute })).st.tb.run +
    327) ∧
    (RunTime.elapsed { day := 9000, minute := 599, run := { sec := 940, cyc := 427 : RunTime } : RefMinute }.run
    (withMessage { day := 9000, minute := 600, ended := { sec := 999, cyc := 26314 : RunTime } : RefMessage }
            (some { day := 9000, minute := 599, run := { sec := 940, cyc := 427 : RunTime } : RefMinute })).st.tb.run ≤
  1966080 + 327) ∧
    (-500 =
  TowerTime.diff
    (TowerTime.ofMinute { day := 9000, minute := 600, ended := { sec := 999, cyc := 26314 : RunTime } : RefMessage }.day
      { day := 9000, minute := 600, ended := { sec := 999, cyc := 26314 : RunTime } : RefMessage }.minute)
    (TimeBase.now
      (withMessage { day := 9000, minute := 600, ended := { sec := 999, cyc := 26314 : RunTime } : RefMessage }
            (some { day := 9000, minute := 599, run := { sec := 940, cyc := 427 : RunTime } : RefMinute })).st.tb)) ∧
    (-2000000 < -500) ∧
    (-500 < 2000000) := by decide

/-- The hypotheses of `Obligations.ReferenceMinutesAreTaken`, clause 2.2.2.2. -/
theorem witness_lock_lost :
    (State.settled lockLate) ∧
    (Station.inService lockLate.st = true) ∧
    (lockLate.st.tb.valid = true) ∧
    (lockLate.st.ag.refState = RefState.locked) ∧
    (lockLate.st.ag.lastMinute = some { day := 9000, minute := 598, run := { sec := 850, cyc := 100 : RunTime } : RefMinute }) ∧
    (RunTime.reached
    (RunTime.plus { day := 9000, minute := 598, run := { sec := 850, cyc := 100 : RunTime } : RefMinute }.run
      (150 * 32768))
    lockLate.st.tb.run =
  true) ∧
    (∀ (p : Option Peer), p ∈ lockLate.st.ag.peers → p = none) := by decide

/-- The hypotheses of `Obligations.SetTimeSteps`, clause 1. -/
theorem witness_set_time_range :
    (State.Asked (on (hearing base)) ask start) ∧
    (7 ≤ List.length (timeArgs 86400000000)) ∧
    (86400000000 ≤ word40 (timeArgs 86400000000) 2) := by decide

/-- The hypotheses of `Obligations.SetTimeSteps`, clause 2.1. -/
theorem witness_set_time_locked :
    (State.Asked setTimeLockedCase ask start) ∧
    (7 ≤ List.length (timeArgs 86399999999)) ∧
    (word40 (timeArgs 86399999999) 2 < 86400000000) ∧
    (setTimeLockedCase.st.ag.refState = RefState.locked) := by decide

/-- The hypotheses of `Obligations.SetTimeSteps`, clause 2.2.1. -/
theorem witness_set_time :
    (State.Asked (on (hearing base)) ask start) ∧
    (7 ≤ List.length (timeArgs 0)) ∧
    (word40 (timeArgs 0) 2 < 86400000000) ∧
    ((on (hearing base)).st.ag.refState ≠ RefState.locked) ∧
    (∀ (p : Option Peer), p ∈ (on (hearing base)).st.ag.peers → p = none) := by decide

/-- The hypotheses of `Obligations.HeardCueMakesARecord`, clause 1. -/
theorem witness_cue_heard :
    (State.settled (on (hearing base))) ∧
    (Station.running (on (hearing base)).st = true) ∧
    (Station.Hears (on (hearing base)).st 7 start) ∧
    (List.length (cueBytes tuneKey 0 2001 0) = 12) ∧
    ((on (hearing base)).st.tb.valid = true) ∧
    ((on (hearing base)).st.pf.silenced = false) ∧
    ((keyAt (cueBytes tuneKey 0 2001 0) 0).cls = PerfClass.tune ∨ (keyAt (cueBytes tuneKey 0 2001 0) 0).cls = PerfClass.toll) ∧
    (Key.valid (keyAt (cueBytes tuneKey 0 2001 0) 0) = true) ∧
    (Performances.slotOf (on (hearing base)).st.pf (keyAt (cueBytes tuneKey 0 2001 0) 0) = none) ∧
    (Performances.isRecent (on (hearing base)).st.pf (keyAt (cueBytes tuneKey 0 2001 0) 0) = false) ∧
    (Performances.freeSlot (on (hearing base)).st.pf = some 1) ∧
    (TowerTime.diff (TimeBase.now (on (hearing base)).st.tb)
    (TowerTime.plus
      (TowerTime.plus
        (TowerTime.ofMinute (keyAt (cueBytes tuneKey 0 2001 0) 0).day (keyAt (cueBytes tuneKey 0 2001 0) 0).minute)
        (↑(word16 (cueBytes tuneKey 0 2001 0) 6 * 1000) : Int))
      (-1500000)) <
  0) := by decide

/-- The hypotheses of `Obligations.HeardCueMakesARecord`, clause 1. -/
theorem witness_cue_heard2 :
    (State.settled (on (hearing base))) ∧
    (Station.running (on (hearing base)).st = true) ∧
    (Station.Hears (on (hearing base)).st 7 start) ∧
    (List.length (cueBytes tollKey 0 999 65535) = 12) ∧
    ((on (hearing base)).st.tb.valid = true) ∧
    ((on (hearing base)).st.pf.silenced = false) ∧
    ((keyAt (cueBytes tollKey 0 999 65535) 0).cls = PerfClass.tune ∨
  (keyAt (cueBytes tollKey 0 999 65535) 0).cls = PerfClass.toll) ∧
    (Key.valid (keyAt (cueBytes tollKey 0 999 65535) 0) = true) ∧
    (Performances.slotOf (on (hearing base)).st.pf (keyAt (cueBytes tollKey 0 999 65535) 0) = none) ∧
    (Performances.isRecent (on (hearing base)).st.pf (keyAt (cueBytes tollKey 0 999 65535) 0) = false) ∧
    (Performances.freeSlot (on (hearing base)).st.pf = some 1) ∧
    (TowerTime.diff (TimeBase.now (on (hearing base)).st.tb)
    (TowerTime.plus
      (TowerTime.plus
        (TowerTime.ofMinute (keyAt (cueBytes tollKey 0 999 65535) 0).day
          (keyAt (cueBytes tollKey 0 999 65535) 0).minute)
        (↑(word16 (cueBytes tollKey 0 999 65535) 6 * 1000) : Int))
      (-1500000)) <
  0) := by decide

/-- The hypotheses of `Obligations.HeardCueMakesARecord`, clause 2.1. -/
theorem witness_cue_duplicate :
    (State.settled (knowsKey tuneKey)) ∧
    (Station.running (knowsKey tuneKey).st = true) ∧
    (Station.Hears (knowsKey tuneKey).st 7 start) ∧
    (List.length (cueBytes tuneKey 0 600 8) = 12) ∧
    ((knowsKey tuneKey).st.tb.valid = true) ∧
    ((knowsKey tuneKey).st.pf.silenced = false) ∧
    ((keyAt (cueBytes tuneKey 0 600 8) 0).cls ≠ PerfClass.hour) ∧
    (Key.valid (keyAt (cueBytes tuneKey 0 600 8) 0) = true) ∧
    (Performances.slotOf (knowsKey tuneKey).st.pf (keyAt (cueBytes tuneKey 0 600 8) 0) = none) ∧
    (Performances.isRecent (knowsKey tuneKey).st.pf (keyAt (cueBytes tuneKey 0 600 8) 0) = true) := by decide

/-- The hypotheses of `Obligations.HeardCueMakesARecord`, clause 2.2.1. -/
theorem witness_cue_ignored :
    (State.settled (on (hearing base))) ∧
    (Station.running (on (hearing base)).st = true) ∧
    (Station.Hears (on (hearing base)).st 7 start) ∧
    (List.length (cueBytes { cls := PerfClass.hour, number := 0, quarter := 0, day := 9000, minute := 660 : Key } 0 0 0) = 12) ∧
    ((on (hearing base)).st.tb.valid = false ∨
  (on (hearing base)).st.pf.silenced = true ∨
    (keyAt (cueBytes { cls := PerfClass.hour, number := 0, quarter := 0, day := 9000, minute := 660 : Key } 0 0 0)
            0).cls =
        PerfClass.hour ∨
      Key.valid
          (keyAt (cueBytes { cls := PerfClass.hour, number := 0, quarter := 0, day := 9000, minute := 660 : Key } 0 0 0)
            0) =
        false) := by decide

/-- The hypotheses of `Obligations.HeardCueMakesARecord`, clause 2.2.1. -/
theorem witness_cue_ignored2 :
    (State.settled (on (hearing base))) ∧
    (Station.running (on (hearing base)).st = true) ∧
    (Station.Hears (on (hearing base)).st 7 start) ∧
    (List.length (cueBytes { cls := PerfClass.tune, number := 251, quarter := 0, day := 9000, minute := 660 : Key } 0 0 0) =
  12) ∧
    ((on (hearing base)).st.tb.valid = false ∨
  (on (hearing base)).st.pf.silenced = true ∨
    (keyAt (cueBytes { cls := PerfClass.tune, number := 251, quarter := 0, day := 9000, minute := 660 : Key } 0 0 0)
            0).cls =
        PerfClass.hour ∨
      Key.valid
          (keyAt
            (cueBytes { cls := PerfClass.tune, number := 251, quarter := 0, day := 9000, minute := 660 : Key } 0 0 0)
            0) =
        false) := by decide

/-- The hypotheses of `Obligations.SilenceAndResume`, clause 1.1. -/
theorem witness_silence_heard :
    (State.settled silenceMe) ∧
    (Station.running silenceMe.st = true) ∧
    (Station.Hears silenceMe.st 7 start) ∧
    (List.length (HaltScope.bytes HaltScope.silence) = 6) ∧
    (byteAt (HaltScope.bytes HaltScope.silence) 0 % 4 = 1) := by decide

/-- The hypotheses of `Obligations.SilenceAndResume`, clause 1.2. -/
theorem witness_silence_request :
    (State.Asked (on (hearing base)) ask start) ∧
    (∀ (r : Option Record), r ∈ (on (hearing base)).st.pf.table → r = none) := by decide

/-- The hypotheses of `Obligations.SilenceAndResume`, clause 2.1. -/
theorem witness_resume_heard :
    (State.settled (on (hearing base))) ∧
    (Station.running (on (hearing base)).st = true) ∧
    (Station.Hears (on (hearing base)).st 7 start) ∧
    (List.length (HaltScope.bytes HaltScope.resume) = 6) ∧
    (byteAt (HaltScope.bytes HaltScope.resume) 0 % 4 = 2) := by decide

/-- The hypotheses of `Obligations.SilenceAndResume`, clause 2.2. -/
theorem witness_resume_request :
    (State.Asked (on (hearing base)) askAll start) := by decide

/-- The hypotheses of `Obligations.StartMakesAndSendsACue`, clause 1.1. -/
theorem witness_start_range :
    (State.Asked (on (hearing base)) ask start) ∧
    (5 ≤ List.length (tollArgs 65)) ∧
    (byteAt (tollArgs 65) 0 = 1) ∧
    (byteAt (tollArgs 65) 1 = 0 ∨ 64 < byteAt (tollArgs 65) 1) := by decide

/-- The hypotheses of `Obligations.StartMakesAndSendsACue`, clause 1.2.1. -/
theorem witness_start_state :
    (State.Asked startStateCase ask start) ∧
    (5 ≤ List.length (tollArgs 64)) ∧
    (byteAt (tollArgs 64) 0 = 1) ∧
    (1 ≤ byteAt (tollArgs 64) 1) ∧
    (byteAt (tollArgs 64) 1 ≤ 64) ∧
    (startStateCase.st.cfg.cueCapable = false ∨ startStateCase.st.pf.silenced = true ∨ startStateCase.st.tb.valid = false) := by decide

/-- The hypotheses of `Obligations.StartMakesAndSendsACue`, clause 1.2.2.1. -/
theorem witness_start_duplicate :
    (State.Asked (knowsKey { cls := PerfClass.toll, number := 1, quarter := 0, day := 9000, minute := 599 : Key }) ask start) ∧
    (5 ≤ List.length (tollArgs 1)) ∧
    (byteAt (tollArgs 1) 0 = 1) ∧
    (1 ≤ byteAt (tollArgs 1) 1) ∧
    (byteAt (tollArgs 1) 1 ≤ 64) ∧
    ((knowsKey { cls := PerfClass.toll, number := 1, quarter := 0, day := 9000, minute := 599 : Key }).st.cfg.cueCapable =
  true) ∧
    ((knowsKey { cls := PerfClass.toll, number := 1, quarter := 0, day := 9000, minute := 599 : Key }).st.pf.silenced = false) ∧
    ((knowsKey { cls := PerfClass.toll, number := 1, quarter := 0, day := 9000, minute := 599 : Key }).st.tb.valid = true) ∧
    (Option.isSome
      (Performances.slotOf
        (knowsKey { cls := PerfClass.toll, number := 1, quarter := 0, day := 9000, minute := 599 : Key }).st.pf
        { cls := PerfClass.toll, number := byteAt (tollArgs 1) 1, quarter := 0, day := start.day,
          minute := start.us / 60000000 : Key }) =
    true ∨
  Performances.isRecent
      (knowsKey { cls := PerfClass.toll, number := 1, quarter := 0, day := 9000, minute := 599 : Key }).st.pf
      { cls := PerfClass.toll, number := byteAt (tollArgs 1) 1, quarter := 0, day := start.day,
        minute := start.us / 60000000 : Key } =
    true) := by decide

/-- The hypotheses of `Obligations.StartMakesAndSendsACue`, clause 1.2.2.2.1. -/
theorem witness_start_full :
    (State.Asked fullTable ask start) ∧
    (5 ≤ List.length (tollArgs 1)) ∧
    (byteAt (tollArgs 1) 0 = 1) ∧
    (1 ≤ byteAt (tollArgs 1) 1) ∧
    (byteAt (tollArgs 1) 1 ≤ 64) ∧
    (fullTable.st.cfg.cueCapable = true) ∧
    (fullTable.st.pf.silenced = false) ∧
    (fullTable.st.tb.valid = true) ∧
    (Performances.slotOf fullTable.st.pf
    { cls := PerfClass.toll, number := byteAt (tollArgs 1) 1, quarter := 0, day := start.day,
      minute := start.us / 60000000 : Key } =
  none) ∧
    (Performances.isRecent fullTable.st.pf
    { cls := PerfClass.toll, number := byteAt (tollArgs 1) 1, quarter := 0, day := start.day,
      minute := start.us / 60000000 : Key } =
  false) ∧
    (Performances.freeSlot fullTable.st.pf = none) := by decide

/-- The hypotheses of `Obligations.StartMakesAndSendsACue`, clause 1.2.2.2.2. -/
theorem witness_start_cue :
    (State.Asked cueStation ask start) ∧
    (5 ≤ List.length (tollArgs 1)) ∧
    (byteAt (tollArgs 1) 0 = 1) ∧
    (1 ≤ byteAt (tollArgs 1) 1) ∧
    (byteAt (tollArgs 1) 1 ≤ 64) ∧
    (cueStation.st.cfg.cueCapable = true) ∧
    (cueStation.st.pf.silenced = false) ∧
    (cueStation.st.tb.valid = true) ∧
    (Performances.slotOf cueStation.st.pf
    { cls := PerfClass.toll, number := byteAt (tollArgs 1) 1, quarter := 0, day := start.day,
      minute := start.us / 60000000 : Key } =
  none) ∧
    (Performances.isRecent cueStation.st.pf
    { cls := PerfClass.toll, number := byteAt (tollArgs 1) 1, quarter := 0, day := start.day,
      minute := start.us / 60000000 : Key } =
  false) ∧
    (Bus.mayQueue cueStation.st.bus = true) ∧
    (List.length cueStation.st.bus.queue < 8) ∧
    (Station.record cueStation.st 0 = none) ∧
    (Performances.freeSlot cueStation.st.pf = some 1) ∧
    (TowerTime.diff (TimeBase.now cueStation.st.tb)
    (TowerTime.plus
      (TowerTime.plus { day := start.day, us := start.us : TowerTime } (↑(cueStation.st.cfg.cueLead * 1000) : Int))
      (-1500000)) <
  0) := by decide

/-- The hypotheses of `Obligations.FeedFollowsTheTable`, clause 1. -/
theorem witness_feed_fault :
    (feedFaultCase.state = ChannelState.faulted ∨ feedFaultCase.state = ChannelState.unused) := by decide

/-- The hypotheses of `Obligations.FeedFollowsTheTable`, clause 2.1. -/
theorem witness_feed_taken :
    (bell.state ≠ ChannelState.faulted) ∧
    (bell.state ≠ ChannelState.unused) ∧
    (bell.holder = Holder.none) := by decide

/-- The hypotheses of `Obligations.FeedFollowsTheTable`, clause 2.2.1. -/
theorem witness_feed_queued :
    (feedQueuedCase.state ≠ ChannelState.faulted) ∧
    (feedQueuedCase.state ≠ ChannelState.unused) ∧
    (feedQueuedCase.holder = Holder.perf 1 3) ∧
    (List.length feedQueuedCase.queue < 12) := by decide

/-- The hypotheses of `Obligations.FeedFollowsTheTable`, clause 2.2.2.1. -/
theorem witness_feed_full :
    (feedFullCase.state ≠ ChannelState.faulted) ∧
    (feedFullCase.state ≠ ChannelState.unused) ∧
    (feedFullCase.holder = Holder.perf 1 3) ∧
    (12 ≤ List.length feedFullCase.queue) := by decide

/-- The hypotheses of `Obligations.FeedFollowsTheTable`, clause 2.2.2.2.1. -/
theorem witness_feed_yielded :
    (feedYieldedCase.state ≠ ChannelState.faulted) ∧
    (feedYieldedCase.state ≠ ChannelState.unused) ∧
    (feedYieldedCase.holder = Holder.perf 2 3) ∧
    (2 ≠ 1) ∧
    (3 ≤ 3) := by decide

/-- The hypotheses of `Obligations.FeedFollowsTheTable`, clause 2.2.2.2.2.1. -/
theorem witness_feed_displaces :
    (feedYieldedCase.state ≠ ChannelState.faulted) ∧
    (feedYieldedCase.state ≠ ChannelState.unused) ∧
    ((match feedYieldedCase.holder with
  | Holder.none => false
  | Holder.panel => true
  | Holder.perf h p => decide (h ≠ 1) && decide (2 < p)) =
  true) ∧
    (feedYieldedCase.waiting = none) ∧
    ((!(feedYieldedCase.openPhrase || List.any feedYieldedCase.queue fun x => decide (x.phrase ≠ Phrase.none)) &&
    !feedYieldedCase.isProtected) =
  true) := by decide

/-- The hypotheses of `Obligations.FeedFollowsTheTable`, clause 2.2.2.2.2.2.1. -/
theorem witness_feed_waits :
    (feedWaitsCase.state ≠ ChannelState.faulted) ∧
    (feedWaitsCase.state ≠ ChannelState.unused) ∧
    ((match feedWaitsCase.holder with
  | Holder.none => false
  | Holder.panel => true
  | Holder.perf h p => decide (h ≠ 1) && decide (2 < p)) =
  true) ∧
    (feedWaitsCase.waiting = none) ∧
    ((!(feedWaitsCase.openPhrase || List.any feedWaitsCase.queue fun x => decide (x.phrase ≠ Phrase.none)) &&
    !feedWaitsCase.isProtected) =
  false) := by decide

/-- The hypotheses of `Obligations.FeedFollowsTheTable`, clause 2.2.2.2.2.2.2.1. -/
theorem witness_feed_occupied :
    (feedOccupiedCase.state ≠ ChannelState.faulted) ∧
    (feedOccupiedCase.state ≠ ChannelState.unused) ∧
    ((match feedOccupiedCase.holder with
  | Holder.none => false
  | Holder.panel => true
  | Holder.perf h p => decide (h ≠ 1) && decide (3 < p)) =
  true) ∧
    (feedOccupiedCase.waiting = some { note := fedEntry, slot := 1, priority := 3 : WaitingNote }) ∧
    ({ note := fedEntry, slot := 1, priority := 3 : WaitingNote }.slot = 1) := by decide

/-- The hypotheses of `Obligations.FeedFollowsTheTable`, clause 2.2.2.2.2.2.2.2.1. -/
theorem witness_feed_ousts :
    (feedOustsCase.state ≠ ChannelState.faulted) ∧
    (feedOustsCase.state ≠ ChannelState.unused) ∧
    ((match feedOustsCase.holder with
  | Holder.none => false
  | Holder.panel => true
  | Holder.perf h p => decide (h ≠ 1) && decide (2 < p)) =
  true) ∧
    (feedOustsCase.waiting = some { note := fedEntry, slot := 2, priority := 3 : WaitingNote }) ∧
    ({ note := fedEntry, slot := 2, priority := 3 : WaitingNote }.slot ≠ 1) ∧
    (2 < { note := fedEntry, slot := 2, priority := 3 : WaitingNote }.priority) := by decide

/-- The hypotheses of `Obligations.FeedFollowsTheTable`, clause 2.2.2.2.2.2.2.2.2. -/
theorem witness_feed_yields_slot :
    (feedOustsCase.state ≠ ChannelState.faulted) ∧
    (feedOustsCase.state ≠ ChannelState.unused) ∧
    ((match feedOustsCase.holder with
  | Holder.none => false
  | Holder.panel => true
  | Holder.perf h p => decide (h ≠ 1) && decide (3 < p)) =
  true) ∧
    (feedOustsCase.waiting = some { note := fedEntry, slot := 2, priority := 3 : WaitingNote }) ∧
    ({ note := fedEntry, slot := 2, priority := 3 : WaitingNote }.slot ≠ 1) ∧
    ({ note := fedEntry, slot := 2, priority := 3 : WaitingNote }.priority ≤ 3) := by decide

/-- The hypotheses of `Obligations.HammersReturn`, clause 1.1. -/
theorem witness_pulse_end :
    (State.settled pulseEndCase) ∧
    (Station.inService pulseEndCase.st = true) ∧
    (pulseEndCase.st.channels[0]? = some pulseEndCase2) ∧
    (pulseEndCase2.state = ChannelState.striking) ∧
    (pulseEndCase2.pulseEnd = some { sec := 1000, cyc := 100 : RunTime }) ∧
    (RunTime.reached { sec := 1000, cyc := 100 : RunTime } pulseEndCase.st.tb.run = true) ∧
    (Station.showsRest pulseEndCase.st 0 = false) := by decide

/-- The hypotheses of `Obligations.HammersReturn`, clause 1.2. -/
theorem witness_pulse_end_ready :
    (State.settled pulseEndReadyCase) ∧
    (Station.inService pulseEndReadyCase.st = true) ∧
    (pulseEndReadyCase.st.channels[0]? = some pulseEndCase2) ∧
    (pulseEndCase2.state = ChannelState.striking) ∧
    (pulseEndCase2.pulseEnd = some { sec := 1000, cyc := 100 : RunTime }) ∧
    (RunTime.reached { sec := 1000, cyc := 100 : RunTime } pulseEndReadyCase.st.tb.run = true) ∧
    (Station.showsRest pulseEndReadyCase.st 0 = true) ∧
    (∀ (t : RunTime),
  t ∈ pulseEndCase2.lastLaunch →
    (Station.channelCfg pulseEndReadyCase.st 0).interval * 32768 ≤ RunTime.elapsed t pulseEndReadyCase.st.tb.run * 1000) := by decide

/-- The hypotheses of `Obligations.HammersReturn`, clause 2.1. -/
theorem witness_rest_ready :
    (State.settled (on (resting (withBell (settling false))))) ∧
    (Station.inService (on (resting (withBell (settling false)))).st = true) ∧
    ((on (resting (withBell (settling false)))).st.channels[0]? = some (settling false)) ∧
    ((settling false).state = ChannelState.settling) ∧
    (Station.showsRest (on (resting (withBell (settling false)))).st 0 = true) ∧
    ((settling false).restTaken = false) ∧
    (∀ (t : RunTime),
  t ∈ (settling false).lastLaunch →
    (Station.channelCfg (on (resting (withBell (settling false)))).st 0).interval * 32768 ≤
      RunTime.elapsed t (on (resting (withBell (settling false)))).st.tb.run * 1000) := by decide

/-- The hypotheses of `Obligations.HammersReturn`, clause 2.2.1. -/
theorem witness_rest_early :
    (State.settled restEarlyCase) ∧
    (Station.inService restEarlyCase.st = true) ∧
    (restEarlyCase.st.channels[0]? = some restEarlyCase2) ∧
    (restEarlyCase2.state = ChannelState.settling) ∧
    (Station.showsRest restEarlyCase.st 0 = true) ∧
    (restEarlyCase2.restTaken = false) ∧
    (¬∀ (t : RunTime),
    t ∈ restEarlyCase2.lastLaunch →
      (Station.channelCfg restEarlyCase.st 0).interval * 32768 ≤ RunTime.elapsed t restEarlyCase.st.tb.run * 1000) := by decide

/-- The hypotheses of `Obligations.HammersReturn`, clause 2.2.2. -/
theorem witness_interval_ready :
    (State.settled (on (withBell (settling true)))) ∧
    (Station.inService (on (withBell (settling true))).st = true) ∧
    ((on (withBell (settling true))).st.channels[0]? = some (settling true)) ∧
    ((settling true).state = ChannelState.settling) ∧
    ((settling true).restTaken = true) ∧
    ((settling true).rested = true) ∧
    (∀ (t : RunTime),
  t ∈ (settling true).lastLaunch →
    (Station.channelCfg (on (withBell (settling true))).st 0).interval * 32768 ≤
      RunTime.elapsed t (on (withBell (settling true))).st.tb.run * 1000) := by decide

/-- The hypotheses of `Obligations.HammersFaultAndAreRechecked`, clause 1.1. -/
theorem witness_rest_lost :
    (State.settled (on base)) ∧
    (Station.inService (on base).st = true) ∧
    ((on base).st.channels[0]? = some bell) ∧
    (bell.state = ChannelState.ready ∨ bell.state = ChannelState.settling ∧ bell.rested = true) ∧
    (Station.showsRest (on base).st 0 = false) ∧
    (bell.restTaken = true) := by decide

/-- The hypotheses of `Obligations.HammersFaultAndAreRechecked`, clause 1.1. -/
theorem witness_rest_lost2 :
    (State.settled (on (withBell (settling true)))) ∧
    (Station.inService (on (withBell (settling true))).st = true) ∧
    ((on (withBell (settling true))).st.channels[0]? = some (settling true)) ∧
    ((settling true).state = ChannelState.ready ∨
  (settling true).state = ChannelState.settling ∧ (settling true).rested = true) ∧
    (Station.showsRest (on (withBell (settling true))).st 0 = false) ∧
    ((settling true).restTaken = true) := by decide

/-- The hypotheses of `Obligations.HammersFaultAndAreRechecked`, clause 1.2.1. -/
theorem witness_return_timeout :
    (State.settled (on (withBell (settling false)))) ∧
    (Station.inService (on (withBell (settling false))).st = true) ∧
    ((on (withBell (settling false))).st.channels[0]? = some (settling false)) ∧
    ((settling false).holder = Holder.none) ∧
    ((settling false).waiting = none) ∧
    ((settling false).state = ChannelState.settling) ∧
    ((settling false).rested = false) ∧
    ((settling false).pulseEnded = some { sec := 999, cyc := 19760 : RunTime }) ∧
    (400 * 32768 ≤ RunTime.elapsed { sec := 999, cyc := 19760 : RunTime } (on (withBell (settling false))).st.tb.run * 1000) := by decide

/-- The hypotheses of `Obligations.HammersFaultAndAreRechecked`, clause 1.2.2. -/
theorem witness_loss_limit :
    (State.settled lossLimitCase) ∧
    (Station.inService lossLimitCase.st = true) ∧
    (lossLimitCase.st.channels[0]? = some lossLimitCase2) ∧
    (lossLimitCase2.holder = Holder.none) ∧
    (lossLimitCase2.waiting = none) ∧
    (lossLimitCase2.state = ChannelState.ready ∨ lossLimitCase2.state = ChannelState.settling) ∧
    (lossLimitCase2.lostAt = some { sec := 999, cyc := 29591 : RunTime }) ∧
    (100 * 32768 < RunTime.elapsed { sec := 999, cyc := 29591 : RunTime } lossLimitCase.st.tb.run * 1000) := by decide

/-- The hypotheses of `Obligations.HammersFaultAndAreRechecked`, clause 2.2.1. -/
theorem witness_recheck_range :
    (State.Asked (on (hearing base)) ask start) ∧
    (1 ≤ List.length [8]) ∧
    (7 < byteAt [8] 0) := by decide

/-- The hypotheses of `Obligations.HammersFaultAndAreRechecked`, clause 2.2.2.1. -/
theorem witness_recheck_state :
    (State.Asked (on (hearing base)) ask start) ∧
    (1 ≤ List.length [7]) ∧
    (byteAt [7] 0 ≤ 7) ∧
    ((on (hearing base)).st.channels[byteAt [7] 0]? = some Channel.cold) ∧
    (Channel.cold.state ≠ ChannelState.faulted ∨ Station.showsRest (on (hearing base)).st (byteAt [7] 0) = false) := by decide

/-- The hypotheses of `Obligations.HammersFaultAndAreRechecked`, clause 2.2.2.2. -/
theorem witness_recheck :
    (State.Asked recheckCase ask start) ∧
    (1 ≤ List.length [0]) ∧
    (byteAt [0] 0 ≤ 7) ∧
    (recheckCase.st.channels[byteAt [0] 0]? = some feedFaultCase) ∧
    (feedFaultCase.state = ChannelState.faulted) ∧
    (Station.showsRest recheckCase.st (byteAt [0] 0) = true) := by decide

/-- The hypotheses of `Obligations.StrikePlacesAPanelEntry`, clause 1. -/
theorem witness_strike_range :
    (State.Asked (on (hearing base)) ask start) ∧
    (4 ≤ List.length (strikeArgs 1 4 60001)) ∧
    (¬(1 ≤ byteAt (strikeArgs 1 4 60001) 0 ∧
    byteAt (strikeArgs 1 4 60001) 0 ≤ 64 ∧
      1 ≤ byteAt (strikeArgs 1 4 60001) 1 ∧
        byteAt (strikeArgs 1 4 60001) 1 ≤ 4 ∧ word16 (strikeArgs 1 4 60001) 2 ≤ 60000)) := by decide

/-- The hypotheses of `Obligations.StrikePlacesAPanelEntry`, clause 2.1. -/
theorem witness_strike_foreign :
    (State.Asked (on (hearing base)) ask start) ∧
    (4 ≤ List.length (strikeArgs 64 4 60000)) ∧
    (1 ≤ byteAt (strikeArgs 64 4 60000) 0 ∧
  byteAt (strikeArgs 64 4 60000) 0 ≤ 64 ∧
    1 ≤ byteAt (strikeArgs 64 4 60000) 1 ∧
      byteAt (strikeArgs 64 4 60000) 1 ≤ 4 ∧ word16 (strikeArgs 64 4 60000) 2 ≤ 60000) ∧
    (StationBlock.channelOf (on (hearing base)).st.cfg (byteAt (strikeArgs 64 4 60000) 0) = none) := by decide

/-- The hypotheses of `Obligations.StrikePlacesAPanelEntry`, clause 2.2.1. -/
theorem witness_strike_state :
    (State.Asked (on (hearing (withBell (panelBell 0)))) ask start) ∧
    (4 ≤ List.length (strikeArgs 1 1 0)) ∧
    (1 ≤ byteAt (strikeArgs 1 1 0) 0 ∧
  byteAt (strikeArgs 1 1 0) 0 ≤ 64 ∧
    1 ≤ byteAt (strikeArgs 1 1 0) 1 ∧ byteAt (strikeArgs 1 1 0) 1 ≤ 4 ∧ word16 (strikeArgs 1 1 0) 2 ≤ 60000) ∧
    (StationBlock.channelOf (on (hearing (withBell (panelBell 0)))).st.cfg (byteAt (strikeArgs 1 1 0) 0) = some 0) ∧
    ((on (hearing (withBell (panelBell 0)))).st.channels[0]? = some (panelBell 0)) ∧
    ((on (hearing (withBell (panelBell 0)))).st.pf.silenced = true ∨
  (panelBell 0).state = ChannelState.faulted ∨
    (panelBell 0).holder ≠ Holder.none ∨ Option.isSome (panelBell 0).waiting = true) := by decide

/-- The hypotheses of `Obligations.StrikePlacesAPanelEntry`, clause 2.2.2. -/
theorem witness_strike :
    (State.Asked (on (hearing base)) ask start) ∧
    (4 ≤ List.length (strikeArgs 1 4 60000)) ∧
    (1 ≤ byteAt (strikeArgs 1 4 60000) 0 ∧
  byteAt (strikeArgs 1 4 60000) 0 ≤ 64 ∧
    1 ≤ byteAt (strikeArgs 1 4 60000) 1 ∧ byteAt (strikeArgs 1 4 60000) 1 ≤ 4 ∧ word16 (strikeArgs 1 4 60000) 2 ≤ 60000) ∧
    (StationBlock.channelOf (on (hearing base)).st.cfg (byteAt (strikeArgs 1 4 60000) 0) = some 0) ∧
    ((on (hearing base)).st.channels[0]? = some bell) ∧
    ((on (hearing base)).st.pf.silenced = false) ∧
    (bell.state ≠ ChannelState.faulted) ∧
    (bell.holder = Holder.none) ∧
    (bell.waiting = none) := by decide

/-- The hypotheses of `Obligations.DialSetReplacesThePosition`, clause 1. -/
theorem witness_dial_set_all :
    (State.Asked (on (hearing base)) askAll start) ∧
    (askAll.target ≠ (on (hearing base)).st.cfg.number) := by decide

/-- The hypotheses of `Obligations.DialSetReplacesThePosition`, clause 2.1. -/
theorem witness_dial_set_range :
    (State.Asked (on (hearing base)) ask start) ∧
    (ask.target = (on (hearing base)).st.cfg.number) ∧
    (3 ≤ List.length (dialArgs 0 1440)) ∧
    (3 < byteAt (dialArgs 0 1440) 0 ∨ 1439 < word16 (dialArgs 0 1440) 1 ∧ word16 (dialArgs 0 1440) 1 ≠ 65535) := by decide

/-- The hypotheses of `Obligations.DialSetReplacesThePosition`, clause 2.2.1. -/
theorem witness_dial_set_unused :
    (State.Asked (on (hearing base)) ask start) ∧
    (ask.target = (on (hearing base)).st.cfg.number) ∧
    (3 ≤ List.length (dialArgs 3 65535)) ∧
    (byteAt (dialArgs 3 65535) 0 ≤ 3) ∧
    (word16 (dialArgs 3 65535) 1 ≤ 1439 ∨ word16 (dialArgs 3 65535) 1 = 65535) ∧
    ((on (hearing base)).st.dials[byteAt (dialArgs 3 65535) 0]? = some Dial.cold) ∧
    (Dial.cold.state = DialState.unused) := by decide

/-- The hypotheses of `Obligations.DialSetReplacesThePosition`, clause 2.2.2.1. -/
theorem witness_dial_set_busy :
    (State.Asked (on (hearing (withDial (pulsing 0 0 false)))) ask start) ∧
    (ask.target = (on (hearing (withDial (pulsing 0 0 false)))).st.cfg.number) ∧
    (3 ≤ List.length (dialArgs 0 1439)) ∧
    (byteAt (dialArgs 0 1439) 0 ≤ 3) ∧
    (word16 (dialArgs 0 1439) 1 ≤ 1439 ∨ word16 (dialArgs 0 1439) 1 = 65535) ∧
    ((on (hearing (withDial (pulsing 0 0 false)))).st.dials[byteAt (dialArgs 0 1439) 0]? = some (pulsing 0 0 false)) ∧
    ((pulsing 0 0 false).state ≠ DialState.unused) ∧
    (Option.isSome (pulsing 0 0 false).pulseEnd = true) := by decide

/-- The hypotheses of `Obligations.DialSetReplacesThePosition`, clause 2.2.2.2.1. -/
theorem witness_dial_set :
    (State.Asked dialSetCase ask start) ∧
    (ask.target = dialSetCase.st.cfg.number) ∧
    (3 ≤ List.length (dialArgs 0 1200)) ∧
    (byteAt (dialArgs 0 1200) 0 ≤ 3) ∧
    (word16 (dialArgs 0 1200) 1 ≤ 1439 ∨ word16 (dialArgs 0 1200) 1 = 65535) ∧
    (dialSetCase.st.dials[byteAt (dialArgs 0 1200) 0]? = some dialSetCase2) ∧
    (dialSetCase2.state ≠ DialState.unused) ∧
    (dialSetCase2.pulseEnd = none) ∧
    (dialSetCase2.draw = DrawState.none) ∧
    (dialSetCase.st.tb.valid = true) ∧
    (word16 (dialArgs 0 1200) 1 = (TimeBase.civil dialSetCase.st.tb).us / 1000000 / 30 % 1440) := by decide

/-- The hypotheses of `Obligations.PendingDrawsWait`, clause 1.1. -/
theorem witness_quiet_queued :
    (State.settled (quietOver 70)) ∧
    (Station.running (quietOver 70).st = true) ∧
    ((quietOver 70).st.sup.quietEnd = some { sec := 1000, cyc := 100 : RunTime }) ∧
    (RunTime.reached { sec := 1000, cyc := 100 : RunTime } (quietOver 70).st.tb.run = true) ∧
    ((quietOver 70).st.sup.waiting = [waitingDraw 70 false]) ∧
    ((waitingDraw 70 false).queued = false) ∧
    ((waitingDraw 70 false).increase = false) ∧
    ((quietOver 70).st.sup.incomplete = false) ∧
    (Bus.mayQueue (quietOver 70).st.bus = true) ∧
    (List.length (quietOver 70).st.bus.queue < 8) ∧
    (List.sum (List.map (fun e => e.amount) (quietOver 70).st.sup.draws) + (waitingDraw 70 false).amount ≤
  (quietOver 70).st.cfg.budget) := by decide

/-- The hypotheses of `Obligations.PendingDrawsWait`, clause 1.2. -/
theorem witness_quiet_waits :
    (State.settled (quietOver 71)) ∧
    (Station.running (quietOver 71).st = true) ∧
    ((quietOver 71).st.sup.quietEnd = some { sec := 1000, cyc := 100 : RunTime }) ∧
    (RunTime.reached { sec := 1000, cyc := 100 : RunTime } (quietOver 71).st.tb.run = true) ∧
    ((quietOver 71).st.sup.waiting = [waitingDraw 71 false]) ∧
    ((waitingDraw 71 false).queued = false) ∧
    ((waitingDraw 71 false).increase = false) ∧
    ((quietOver 71).st.sup.incomplete = false) ∧
    (Bus.mayQueue (quietOver 71).st.bus = true) ∧
    (List.length (quietOver 71).st.bus.queue < 8) ∧
    ((quietOver 71).st.cfg.budget <
  List.sum (List.map (fun e => e.amount) (quietOver 71).st.sup.draws) + (waitingDraw 71 false).amount) := by decide

/-- The hypotheses of `Obligations.PendingDrawsWait`, clause 2.2.2.1. -/
theorem witness_wait_told :
    (State.settled (longWait false)) ∧
    (Station.inService (longWait false).st = true) ∧
    (List.find? (fun j => decide (j.id = 0)) (longWait false).st.sup.waiting = some (waitingDraw 20 false)) ∧
    (120 * 32768 < RunTime.elapsed (waitingDraw 20 false).requested (longWait false).st.tb.run) ∧
    ((waitingDraw 20 false).told = false) := by decide

/-- The hypotheses of `Obligations.PendingDrawsWait`, clause 2.2.2.2. -/
theorem witness_wait_known :
    (State.settled (longWait true)) ∧
    (Station.inService (longWait true).st = true) ∧
    (List.find? (fun j => decide (j.id = 0)) (longWait true).st.sup.waiting = some (waitingDraw 20 true)) ∧
    (120 * 32768 < RunTime.elapsed (waitingDraw 20 true).requested (longWait true).st.tb.run) ∧
    ((waitingDraw 20 true).told = true) := by decide

/-- The hypotheses of `Obligations.LightSceneSwitchesOn`, clause 1. -/
theorem witness_scene_range :
    (State.Asked (on (hearing base)) ask start) ∧
    (1 ≤ List.length [16]) ∧
    (15 < byteAt [16] 0) := by decide

/-- The hypotheses of `Obligations.LightSceneSwitchesOn`, clause 2.1. -/
theorem witness_scene_dark :
    (State.Asked (on (hearing base)) ask start) ∧
    (1 ≤ List.length [15]) ∧
    (byteAt [15] 0 ≤ 15) ∧
    (∀ (x : Circuit), x ∈ (on (hearing base)).st.sup.circuits → x.state = CircuitState.unused) := by decide

/-- The hypotheses of `Obligations.LightSceneSwitchesOn`, clause 2.2.1. -/
theorem witness_scene_lights :
    (State.Asked sceneStation ask start) ∧
    (1 ≤ List.length [15]) ∧
    (1 ≤ byteAt [15] 0) ∧
    (byteAt [15] 0 ≤ 15) ∧
    (sceneStation.st.sup.circuits = sceneLightsCase :: List.drop 1 base.sup.circuits) ∧
    (∀ (y : Circuit), y ∈ List.drop 1 base.sup.circuits → y.state = CircuitState.unused) ∧
    (sceneLightsCase.state = CircuitState.off ∨
  sceneLightsCase.state = CircuitState.faulted ∧ Station.showsClosed sceneStation.st 0 = false) ∧
    ((Station.circuitCfg sceneStation.st 0).light = some 5) ∧
    (BitVec.getLsbD (List.getD sceneStation.st.pg.scenes (byteAt [15] 0) 0) (5 - 1) = true) ∧
    (sceneStation.st.sup.waiting = []) ∧
    (sceneStation.st.sup.frees = []) ∧
    (sceneStation.st.sup.incomplete = false) ∧
    (Bus.mayQueue sceneStation.st.bus = true) ∧
    (List.length sceneStation.st.bus.queue < 8) ∧
    (List.sum (List.map (fun e => e.amount) sceneStation.st.sup.draws) + (Station.circuitCfg sceneStation.st 0).inrush ≤
  Station.placingLimit sceneStation.st) := by decide

/-- The hypotheses of `Obligations.CircuitsComeOn`, clause 1. -/
theorem witness_draw_placed :
    (State.settled drawSent) ∧
    (Station.running drawSent.st = true) ∧
    (Bus.mayQueue drawSent.st.bus = true) ∧
    (Bus.agrees drawSent.st.bus) ∧
    (drawSent.st.bus.current =
  some
    { capture := start,
      role :=
        Role.sending
          { frame := Frame.draw 0 20 150 DrawPurpose.new, age := 4, errors := 0, unheard := 0 : QueueSlot }.age :
      FrameInProgress }) ∧
    (Bus.slotAt drawSent.st.bus
    { frame := Frame.draw 0 20 150 DrawPurpose.new, age := 4, errors := 0, unheard := 0 : QueueSlot }.age =
  some { frame := Frame.draw 0 20 150 DrawPurpose.new, age := 4, errors := 0, unheard := 0 : QueueSlot }) ∧
    (drawSent.st.bus.heldMark = false) ∧
    ({ frame := Frame.draw 0 20 150 DrawPurpose.new, age := 4, errors := 0, unheard := 0 : QueueSlot }.frame =
  Frame.draw 0 20 150 DrawPurpose.new) ∧
    (0 < 6) ∧
    (drawSent.st.sup.circuits[0]? = some waitingCircuit) ∧
    (waitingCircuit.state = CircuitState.waitingSupply) ∧
    (waitingCircuit.draw = DrawState.pending) ∧
    (drawSent.st.sup.waiting = [drawPlacedCase]) ∧
    (drawPlacedCase.id = 0) := by decide

/-- The hypotheses of `Obligations.CircuitsComeOn`, clause 2.2.1. -/
theorem witness_start_down :
    (State.settled (startEnd 20)) ∧
    (Station.running (startEnd 20).st = true) ∧
    (Bus.mayQueue (startEnd 20).st.bus = true) ∧
    (List.length (startEnd 20).st.bus.queue < 8) ∧
    ((startEnd 20).st.sup.circuits[0]? = some (lit CircuitState.starting)) ∧
    ((lit CircuitState.starting).state = CircuitState.starting) ∧
    ((lit CircuitState.starting).startEnd = some { sec := 1000, cyc := 100 : RunTime }) ∧
    (RunTime.reached { sec := 1000, cyc := 100 : RunTime } (startEnd 20).st.tb.run = true) ∧
    (∀ (k : Nat),
  k < List.length (startEnd 20).st.sup.circuits →
    k ≠ 0 → (Station.circuit (startEnd 20).st k).state = CircuitState.unused) ∧
    ((startEnd 20).st.sup.waiting = []) ∧
    (Supply.ownEntry (startEnd 20).st.sup 0 =
  some { station := 3, id := 0, amount := 20, own := true, hold := 150, announced := none : DrawEntry }) ∧
    ((startEnd 20).st.sup.incomplete = false) ∧
    ((Station.circuitCfg (startEnd 20).st 0).steady ≤ (Station.circuitCfg (startEnd 20).st 0).inrush) := by decide

/-- The hypotheses of `Obligations.CircuitsComeOn`, clause 2.2.2.1. -/
theorem witness_start_up :
    (State.settled (startEnd 30)) ∧
    (Station.running (startEnd 30).st = true) ∧
    (Bus.mayQueue (startEnd 30).st.bus = true) ∧
    (List.length (startEnd 30).st.bus.queue < 8) ∧
    ((startEnd 30).st.sup.circuits[0]? = some (lit CircuitState.starting)) ∧
    ((lit CircuitState.starting).state = CircuitState.starting) ∧
    ((lit CircuitState.starting).startEnd = some { sec := 1000, cyc := 100 : RunTime }) ∧
    (RunTime.reached { sec := 1000, cyc := 100 : RunTime } (startEnd 30).st.tb.run = true) ∧
    (∀ (k : Nat),
  k < List.length (startEnd 30).st.sup.circuits →
    k ≠ 0 → (Station.circuit (startEnd 30).st k).state = CircuitState.unused) ∧
    ((startEnd 30).st.sup.waiting = []) ∧
    (Supply.ownEntry (startEnd 30).st.sup 0 =
  some { station := 3, id := 0, amount := 20, own := true, hold := 150, announced := none : DrawEntry }) ∧
    ((startEnd 30).st.sup.incomplete = false) ∧
    ((Station.circuitCfg (startEnd 30).st 0).inrush < (Station.circuitCfg (startEnd 30).st 0).steady) ∧
    (List.sum (List.map (fun e => e.amount) (startEnd 30).st.sup.draws) +
    ((Station.circuitCfg (startEnd 30).st 0).steady -
      { station := 3, id := 0, amount := 20, own := true, hold := 150, announced := none : DrawEntry }.amount) ≤
  Station.placingLimit (startEnd 30).st) := by decide

/-- The hypotheses of `Obligations.CircuitsComeOn`, clause 2.2.2.2. -/
theorem witness_start_waits :
    (State.settled (startEnd 31)) ∧
    (Station.running (startEnd 31).st = true) ∧
    (Bus.mayQueue (startEnd 31).st.bus = true) ∧
    (List.length (startEnd 31).st.bus.queue < 8) ∧
    ((startEnd 31).st.sup.circuits[0]? = some (lit CircuitState.starting)) ∧
    ((lit CircuitState.starting).state = CircuitState.starting) ∧
    ((lit CircuitState.starting).startEnd = some { sec := 1000, cyc := 100 : RunTime }) ∧
    (RunTime.reached { sec := 1000, cyc := 100 : RunTime } (startEnd 31).st.tb.run = true) ∧
    (∀ (k : Nat),
  k < List.length (startEnd 31).st.sup.circuits →
    k ≠ 0 → (Station.circuit (startEnd 31).st k).state = CircuitState.unused) ∧
    ((startEnd 31).st.sup.waiting = []) ∧
    (Supply.ownEntry (startEnd 31).st.sup 0 =
  some { station := 3, id := 0, amount := 20, own := true, hold := 150, announced := none : DrawEntry }) ∧
    ((startEnd 31).st.sup.incomplete = false) ∧
    ((Station.circuitCfg (startEnd 31).st 0).inrush < (Station.circuitCfg (startEnd 31).st 0).steady) ∧
    (Station.placingLimit (startEnd 31).st <
  List.sum (List.map (fun e => e.amount) (startEnd 31).st.sup.draws) +
    ((Station.circuitCfg (startEnd 31).st 0).steady -
      { station := 3, id := 0, amount := 20, own := true, hold := 150, announced := none : DrawEntry }.amount)) := by decide

/-- The hypotheses of `Obligations.FeedbackIsChecked`, clause 1. -/
theorem witness_feedback_agrees :
    (State.settled (on (closed (drawing 0 10 (withCircuit (lit CircuitState.on)))))) ∧
    (Station.running (on (closed (drawing 0 10 (withCircuit (lit CircuitState.on))))).st = true) ∧
    ((on (closed (drawing 0 10 (withCircuit (lit CircuitState.on))))).st.sup.circuits[0]? = some (lit CircuitState.on)) ∧
    ((Station.circuitCfg (on (closed (drawing 0 10 (withCircuit (lit CircuitState.on))))).st 0).feedback = true) ∧
    ((lit CircuitState.on).state ≠ CircuitState.unused) ∧
    ((lit CircuitState.on).checkDue = some { sec := 1000, cyc := 100 : RunTime }) ∧
    (RunTime.reached { sec := 1000, cyc := 100 : RunTime }
    (on (closed (drawing 0 10 (withCircuit (lit CircuitState.on))))).st.tb.run =
  true) ∧
    (∀ (k : Nat),
  k < List.length (on (closed (drawing 0 10 (withCircuit (lit CircuitState.on))))).st.sup.circuits →
    k ≠ 0 →
      (Station.circuit (on (closed (drawing 0 10 (withCircuit (lit CircuitState.on))))).st k).state =
        CircuitState.unused) ∧
    ((on (closed (drawing 0 10 (withCircuit (lit CircuitState.on))))).st.sup.waiting = []) ∧
    (∀ (q : QueueSlot),
  q ∈ (on (closed (drawing 0 10 (withCircuit (lit CircuitState.on))))).st.bus.queue → Frame.isDrawOf 0 q.frame = false) ∧
    (Bus.mayQueue (on (closed (drawing 0 10 (withCircuit (lit CircuitState.on))))).st.bus = true) ∧
    (List.length (on (closed (drawing 0 10 (withCircuit (lit CircuitState.on))))).st.bus.queue < 8) ∧
    ((lit CircuitState.on).state = CircuitState.faulted ∨
  Station.showsClosed (on (closed (drawing 0 10 (withCircuit (lit CircuitState.on))))).st 0 =
    (lit CircuitState.on).closed) := by decide

/-- The hypotheses of `Obligations.FeedbackIsChecked`, clause 1. -/
theorem witness_feedback_let_go :
    (State.settled (on (drawing 0 10 (withCircuit (lit CircuitState.faulted))))) ∧
    (Station.running (on (drawing 0 10 (withCircuit (lit CircuitState.faulted)))).st = true) ∧
    ((on (drawing 0 10 (withCircuit (lit CircuitState.faulted)))).st.sup.circuits[0]? = some (lit CircuitState.faulted)) ∧
    ((Station.circuitCfg (on (drawing 0 10 (withCircuit (lit CircuitState.faulted)))).st 0).feedback = true) ∧
    ((lit CircuitState.faulted).state ≠ CircuitState.unused) ∧
    ((lit CircuitState.faulted).checkDue = some { sec := 1000, cyc := 100 : RunTime }) ∧
    (RunTime.reached { sec := 1000, cyc := 100 : RunTime }
    (on (drawing 0 10 (withCircuit (lit CircuitState.faulted)))).st.tb.run =
  true) ∧
    (∀ (k : Nat),
  k < List.length (on (drawing 0 10 (withCircuit (lit CircuitState.faulted)))).st.sup.circuits →
    k ≠ 0 →
      (Station.circuit (on (drawing 0 10 (withCircuit (lit CircuitState.faulted)))).st k).state = CircuitState.unused) ∧
    ((on (drawing 0 10 (withCircuit (lit CircuitState.faulted)))).st.sup.waiting = []) ∧
    (∀ (q : QueueSlot),
  q ∈ (on (drawing 0 10 (withCircuit (lit CircuitState.faulted)))).st.bus.queue → Frame.isDrawOf 0 q.frame = false) ∧
    (Bus.mayQueue (on (drawing 0 10 (withCircuit (lit CircuitState.faulted)))).st.bus = true) ∧
    (List.length (on (drawing 0 10 (withCircuit (lit CircuitState.faulted)))).st.bus.queue < 8) ∧
    ((lit CircuitState.faulted).state = CircuitState.faulted ∨
  Station.showsClosed (on (drawing 0 10 (withCircuit (lit CircuitState.faulted)))).st 0 =
    (lit CircuitState.faulted).closed) := by decide

/-- The hypotheses of `Obligations.FeedbackIsChecked`, clause 2.1. -/
theorem witness_feedback_stuck :
    (State.settled feedbackStuckCase) ∧
    (Station.running feedbackStuckCase.st = true) ∧
    (feedbackStuckCase.st.sup.circuits[0]? = some feedbackStuckCase2) ∧
    ((Station.circuitCfg feedbackStuckCase.st 0).feedback = true) ∧
    (feedbackStuckCase2.state ≠ CircuitState.unused) ∧
    (feedbackStuckCase2.checkDue = some { sec := 1000, cyc := 100 : RunTime }) ∧
    (RunTime.reached { sec := 1000, cyc := 100 : RunTime } feedbackStuckCase.st.tb.run = true) ∧
    (∀ (k : Nat),
  k < List.length feedbackStuckCase.st.sup.circuits →
    k ≠ 0 → (Station.circuit feedbackStuckCase.st k).state = CircuitState.unused) ∧
    (feedbackStuckCase.st.sup.waiting = []) ∧
    (∀ (q : QueueSlot), q ∈ feedbackStuckCase.st.bus.queue → Frame.isDrawOf 0 q.frame = false) ∧
    (Bus.mayQueue feedbackStuckCase.st.bus = true) ∧
    (List.length feedbackStuckCase.st.bus.queue < 8) ∧
    (feedbackStuckCase2.state ≠ CircuitState.faulted) ∧
    (Station.showsClosed feedbackStuckCase.st 0 ≠ feedbackStuckCase2.closed) ∧
    (feedbackStuckCase2.draw = DrawState.none) := by decide

/-- The hypotheses of `Obligations.FeedbackIsChecked`, clause 2.2. -/
theorem witness_feedback_open :
    (State.settled (on (drawing 0 10 (withCircuit (lit CircuitState.on))))) ∧
    (Station.running (on (drawing 0 10 (withCircuit (lit CircuitState.on)))).st = true) ∧
    ((on (drawing 0 10 (withCircuit (lit CircuitState.on)))).st.sup.circuits[0]? = some (lit CircuitState.on)) ∧
    ((Station.circuitCfg (on (drawing 0 10 (withCircuit (lit CircuitState.on)))).st 0).feedback = true) ∧
    ((lit CircuitState.on).state ≠ CircuitState.unused) ∧
    ((lit CircuitState.on).checkDue = some { sec := 1000, cyc := 100 : RunTime }) ∧
    (RunTime.reached { sec := 1000, cyc := 100 : RunTime }
    (on (drawing 0 10 (withCircuit (lit CircuitState.on)))).st.tb.run =
  true) ∧
    (∀ (k : Nat),
  k < List.length (on (drawing 0 10 (withCircuit (lit CircuitState.on)))).st.sup.circuits →
    k ≠ 0 → (Station.circuit (on (drawing 0 10 (withCircuit (lit CircuitState.on)))).st k).state = CircuitState.unused) ∧
    ((on (drawing 0 10 (withCircuit (lit CircuitState.on)))).st.sup.waiting = []) ∧
    (∀ (q : QueueSlot),
  q ∈ (on (drawing 0 10 (withCircuit (lit CircuitState.on)))).st.bus.queue → Frame.isDrawOf 0 q.frame = false) ∧
    (Bus.mayQueue (on (drawing 0 10 (withCircuit (lit CircuitState.on)))).st.bus = true) ∧
    (List.length (on (drawing 0 10 (withCircuit (lit CircuitState.on)))).st.bus.queue < 8) ∧
    ((lit CircuitState.on).state ≠ CircuitState.faulted) ∧
    (Station.showsClosed (on (drawing 0 10 (withCircuit (lit CircuitState.on)))).st 0 ≠ (lit CircuitState.on).closed) ∧
    ((lit CircuitState.on).draw = DrawState.live) := by decide

/-- The hypotheses of `Obligations.WriteItemWritesTheProgramme`, clause 1.1. -/
theorem witness_calendar_range :
    (State.Asked (on (hearing base)) ask start) ∧
    (9 ≤ List.length (calendarArgs 1 96 (List.drop 7 tollBytes))) ∧
    (byteAt (calendarArgs 1 96 (List.drop 7 tollBytes)) 0 / 16 = 0) ∧
    (95 < byteAt (calendarArgs 1 96 (List.drop 7 tollBytes)) 1) := by decide

/-- The hypotheses of `Obligations.WriteItemWritesTheProgramme`, clause 1.2.1. -/
theorem witness_calendar_busy :
    (State.Asked (programmed storing) ask start) ∧
    (9 ≤ List.length (calendarArgs 1 95 (List.drop 7 tollBytes))) ∧
    (byteAt (calendarArgs 1 95 (List.drop 7 tollBytes)) 0 / 16 = 0) ∧
    (byteAt (calendarArgs 1 95 (List.drop 7 tollBytes)) 1 ≤ 95) ∧
    (Option.isSome (programmed storing).st.pg.storing = true) := by decide

/-- The hypotheses of `Obligations.WriteItemWritesTheProgramme`, clause 1.2.2.1. -/
theorem witness_calendar_staged :
    (State.Asked (on (hearing base)) ask start) ∧
    (9 ≤ List.length (calendarArgs 0 95 (List.take 7 tollBytes))) ∧
    (byteAt (calendarArgs 0 95 (List.take 7 tollBytes)) 0 / 16 = 0) ∧
    (byteAt (calendarArgs 0 95 (List.take 7 tollBytes)) 1 ≤ 95) ∧
    ((on (hearing base)).st.pg.storing = none) ∧
    (byteAt (calendarArgs 0 95 (List.take 7 tollBytes)) 0 % 16 = 0) := by decide

/-- The hypotheses of `Obligations.WriteItemWritesTheProgramme`, clause 1.2.2.2.1. -/
theorem witness_calendar_state :
    (State.Asked (programmed (staged 13)) ask start) ∧
    (9 ≤ List.length (calendarArgs 1 95 (List.drop 7 tollBytes))) ∧
    (byteAt (calendarArgs 1 95 (List.drop 7 tollBytes)) 0 / 16 = 0) ∧
    (byteAt (calendarArgs 1 95 (List.drop 7 tollBytes)) 1 ≤ 95) ∧
    ((programmed (staged 13)).st.pg.storing = none) ∧
    (byteAt (calendarArgs 1 95 (List.drop 7 tollBytes)) 0 % 16 = 1) ∧
    (∀ (g : Staging),
  g ∈ (programmed (staged 13)).st.pg.staging →
    ¬(g.asker = ask.asker ∧ g.slot = byteAt (calendarArgs 1 95 (List.drop 7 tollBytes)) 1)) := by decide

/-- The hypotheses of `Obligations.WriteItemWritesTheProgramme`, clause 1.2.2.2.2.1.1. -/
theorem witness_calendar_written :
    (State.Asked (programmed (staged 14)) ask start) ∧
    (9 ≤ List.length (calendarArgs 1 95 (List.drop 7 tollBytes))) ∧
    (byteAt (calendarArgs 1 95 (List.drop 7 tollBytes)) 0 / 16 = 0) ∧
    (byteAt (calendarArgs 1 95 (List.drop 7 tollBytes)) 1 ≤ 95) ∧
    ((programmed (staged 14)).st.pg.storing = none) ∧
    (byteAt (calendarArgs 1 95 (List.drop 7 tollBytes)) 0 % 16 = 1) ∧
    ((programmed (staged 14)).st.pg.staging =
  some
    { asker := ask.asker, slot := byteAt (calendarArgs 1 95 (List.drop 7 tollBytes)) 1, bytes := List.take 7 tollBytes :
      Staging }) ∧
    (slotOf (List.take 7 tollBytes ++ List.take 7 (List.drop 2 (calendarArgs 1 95 (List.drop 7 tollBytes)))) =
  some
    (some
      { entry := { selector := Selector.weekly 127, work := CalendarWork.toll 1439 64 1000 255 : CalendarEntry },
        fired := [none] : CalendarSlot })) := by decide

/-- The hypotheses of `Obligations.WriteItemWritesTheProgramme`, clause 1.2.2.2.2.1.2. -/
theorem witness_calendar_bad :
    (State.Asked (programmed (staged 14)) ask start) ∧
    (9 ≤ List.length (calendarArgs 1 95 (List.replicate 7 255))) ∧
    (byteAt (calendarArgs 1 95 (List.replicate 7 255)) 0 / 16 = 0) ∧
    (byteAt (calendarArgs 1 95 (List.replicate 7 255)) 1 ≤ 95) ∧
    ((programmed (staged 14)).st.pg.storing = none) ∧
    (byteAt (calendarArgs 1 95 (List.replicate 7 255)) 0 % 16 = 1) ∧
    ((programmed (staged 14)).st.pg.staging =
  some
    { asker := ask.asker, slot := byteAt (calendarArgs 1 95 (List.replicate 7 255)) 1, bytes := List.take 7 tollBytes :
      Staging }) ∧
    (slotOf (List.take 7 tollBytes ++ List.take 7 (List.drop 2 (calendarArgs 1 95 (List.replicate 7 255)))) = none) := by decide

/-- The hypotheses of `Obligations.WriteItemWritesTheProgramme`, clause 1.2.2.2.2.2. -/
theorem witness_calendar_part :
    (State.Asked (programmed (staged 14)) ask start) ∧
    (9 ≤ List.length (calendarArgs 2 95 (List.drop 7 tollBytes))) ∧
    (byteAt (calendarArgs 2 95 (List.drop 7 tollBytes)) 0 / 16 = 0) ∧
    (byteAt (calendarArgs 2 95 (List.drop 7 tollBytes)) 1 ≤ 95) ∧
    ((programmed (staged 14)).st.pg.storing = none) ∧
    (2 ≤ byteAt (calendarArgs 2 95 (List.drop 7 tollBytes)) 0 % 16) := by decide

/-- The hypotheses of `Obligations.WriteItemWritesTheProgramme`, clause 2.1.1. -/
theorem witness_dusk_range :
    (State.Asked (on (hearing base)) ask start) ∧
    (4 ≤ List.length [16, 46, 0, 0]) ∧
    (byteAt [16, 46, 0, 0] 0 / 16 = 1) ∧
    (45 < byteAt [16, 46, 0, 0] 1) := by decide

/-- The hypotheses of `Obligations.WriteItemWritesTheProgramme`, clause 2.1.2.1. -/
theorem witness_dusk_busy :
    (State.Asked (programmed storing) ask start) ∧
    (4 ≤ List.length [16, 45, 0, 0]) ∧
    (byteAt [16, 45, 0, 0] 0 / 16 = 1) ∧
    (byteAt [16, 45, 0, 0] 1 ≤ 45) ∧
    (Option.isSome (programmed storing).st.pg.storing = true) := by decide

/-- The hypotheses of `Obligations.WriteItemWritesTheProgramme`, clause 2.1.2.2.1. -/
theorem witness_dusk_value :
    (State.Asked (on (hearing base)) ask start) ∧
    (4 ≤ List.length [16, 45, 5, 160]) ∧
    (byteAt [16, 45, 5, 160] 0 / 16 = 1) ∧
    (byteAt [16, 45, 5, 160] 1 ≤ 45) ∧
    ((on (hearing base)).st.pg.storing = none) ∧
    (byteAt [16, 45, 5, 160] 0 % 16 ≠ 0 ∨ 1439 < word16 [16, 45, 5, 160] 2) := by decide

/-- The hypotheses of `Obligations.WriteItemWritesTheProgramme`, clause 2.1.2.2.2. -/
theorem witness_dusk_written :
    (State.Asked (on (hearing base)) ask start) ∧
    (4 ≤ List.length [16, 45, 5, 159]) ∧
    (byteAt [16, 45, 5, 159] 0 / 16 = 1) ∧
    (byteAt [16, 45, 5, 159] 1 ≤ 45) ∧
    ((on (hearing base)).st.pg.storing = none) ∧
    (byteAt [16, 45, 5, 159] 0 % 16 = 0) ∧
    (word16 [16, 45, 5, 159] 2 ≤ 1439) := by decide

/-- The hypotheses of `Obligations.WriteItemWritesTheProgramme`, clause 2.2.1. -/
theorem witness_scene_zero :
    (State.Asked (on (hearing base)) ask start) ∧
    (6 ≤ List.length [32, 0, 0, 0, 0, 1]) ∧
    (byteAt [32, 0, 0, 0, 0, 1] 0 / 16 = 2) ∧
    (byteAt [32, 0, 0, 0, 0, 1] 1 = 0 ∨ 15 < byteAt [32, 0, 0, 0, 0, 1] 1) := by decide

/-- The hypotheses of `Obligations.WriteItemWritesTheProgramme`, clause 2.2.2.1. -/
theorem witness_scene_busy :
    (State.Asked (programmed storing) ask start) ∧
    (6 ≤ List.length [32, 15, 0, 0, 0, 1]) ∧
    (byteAt [32, 15, 0, 0, 0, 1] 0 / 16 = 2) ∧
    (1 ≤ byteAt [32, 15, 0, 0, 0, 1] 1) ∧
    (byteAt [32, 15, 0, 0, 0, 1] 1 ≤ 15) ∧
    (Option.isSome (programmed storing).st.pg.storing = true) := by decide

/-- The hypotheses of `Obligations.WriteItemWritesTheProgramme`, clause 2.2.2.2.1. -/
theorem witness_scene_part :
    (State.Asked (on (hearing base)) ask start) ∧
    (6 ≤ List.length [33, 15, 0, 0, 0, 1]) ∧
    (byteAt [33, 15, 0, 0, 0, 1] 0 / 16 = 2) ∧
    (1 ≤ byteAt [33, 15, 0, 0, 0, 1] 1) ∧
    (byteAt [33, 15, 0, 0, 0, 1] 1 ≤ 15) ∧
    ((on (hearing base)).st.pg.storing = none) ∧
    (byteAt [33, 15, 0, 0, 0, 1] 0 % 16 ≠ 0) := by decide

/-- The hypotheses of `Obligations.WriteItemWritesTheProgramme`, clause 2.2.2.2.2. -/
theorem witness_scene_written :
    (State.Asked (on (hearing base)) ask start) ∧
    (6 ≤ List.length [32, 15, 255, 255, 255, 255]) ∧
    (byteAt [32, 15, 255, 255, 255, 255] 0 / 16 = 2) ∧
    (1 ≤ byteAt [32, 15, 255, 255, 255, 255] 1) ∧
    (byteAt [32, 15, 255, 255, 255, 255] 1 ≤ 15) ∧
    ((on (hearing base)).st.pg.storing = none) ∧
    (byteAt [32, 15, 255, 255, 255, 255] 0 % 16 = 0) := by decide

/-- The hypotheses of `Obligations.TunesAreOpenedAndClosed`, clause 1.1. -/
theorem witness_open_range :
    (State.Asked (on (hearing base)) ask start) ∧
    (5 ≤ List.length (openArgs 251 4096 2000)) ∧
    (¬(1 ≤ byteAt (openArgs 251 4096 2000) 0 ∧
    byteAt (openArgs 251 4096 2000) 0 ≤ 250 ∧
      1 ≤ word16 (openArgs 251 4096 2000) 1 ∧
        word16 (openArgs 251 4096 2000) 1 ≤ 4096 ∧
          150 ≤ word16 (openArgs 251 4096 2000) 3 ∧ word16 (openArgs 251 4096 2000) 3 ≤ 2000)) := by decide

/-- The hypotheses of `Obligations.TunesAreOpenedAndClosed`, clause 1.2.1. -/
theorem witness_open_busy :
    (State.Asked (programmed storing) ask start) ∧
    (5 ≤ List.length (openArgs 250 4096 2000)) ∧
    (1 ≤ byteAt (openArgs 250 4096 2000) 0 ∧
  byteAt (openArgs 250 4096 2000) 0 ≤ 250 ∧
    1 ≤ word16 (openArgs 250 4096 2000) 1 ∧
      word16 (openArgs 250 4096 2000) 1 ≤ 4096 ∧
        150 ≤ word16 (openArgs 250 4096 2000) 3 ∧ word16 (openArgs 250 4096 2000) 3 ≤ 2000) ∧
    (Option.isSome (programmed storing).st.pg.storing = true) := by decide

/-- The hypotheses of `Obligations.TunesAreOpenedAndClosed`, clause 1.2.2.1. -/
theorem witness_open_state :
    (State.Asked (on (hearing (oneTune 0 (withRecord 1 (record tuneKey PerfState.cued 0 true))))) ask start) ∧
    (5 ≤ List.length (openArgs 250 1 150)) ∧
    (1 ≤ byteAt (openArgs 250 1 150) 0 ∧
  byteAt (openArgs 250 1 150) 0 ≤ 250 ∧
    1 ≤ word16 (openArgs 250 1 150) 1 ∧
      word16 (openArgs 250 1 150) 1 ≤ 4096 ∧ 150 ≤ word16 (openArgs 250 1 150) 3 ∧ word16 (openArgs 250 1 150) 3 ≤ 2000) ∧
    ((on (hearing (oneTune 0 (withRecord 1 (record tuneKey PerfState.cued 0 true))))).st.pg.storing = none) ∧
    (¬∀ (t : Option Tune),
    t ∈ (on (hearing (oneTune 0 (withRecord 1 (record tuneKey PerfState.cued 0 true))))).st.pg.tunes →
      ∀ (u : Tune), u ∈ t → u.number ≠ byteAt (openArgs 250 1 150) 0) ∧
    (∃ r,
  r ∈ (on (hearing (oneTune 0 (withRecord 1 (record tuneKey PerfState.cued 0 true))))).st.pf.table ∧
    ∃ x,
      x ∈ r ∧
        (x.key.cls = PerfClass.tune ∨ x.key.cls = PerfClass.quarter) ∧ x.key.number = byteAt (openArgs 250 1 150) 0) := by decide

/-- The hypotheses of `Obligations.TunesAreOpenedAndClosed`, clause 1.2.2.2.1. -/
theorem witness_open_full :
    (State.Asked (programmed fullDirectory) ask start) ∧
    (5 ≤ List.length (openArgs 250 1 150)) ∧
    (1 ≤ byteAt (openArgs 250 1 150) 0 ∧
  byteAt (openArgs 250 1 150) 0 ≤ 250 ∧
    1 ≤ word16 (openArgs 250 1 150) 1 ∧
      word16 (openArgs 250 1 150) 1 ≤ 4096 ∧ 150 ≤ word16 (openArgs 250 1 150) 3 ∧ word16 (openArgs 250 1 150) 3 ≤ 2000) ∧
    ((programmed fullDirectory).st.pg.storing = none) ∧
    (∀ (t : Option Tune),
  t ∈ (programmed fullDirectory).st.pg.tunes → ∀ (u : Tune), u ∈ t → u.number ≠ byteAt (openArgs 250 1 150) 0) ∧
    (∀ (t : Option Tune), t ∈ (programmed fullDirectory).st.pg.tunes → ∃ u, u ∈ t ∧ u.state ≠ TuneState.opened) := by decide

/-- The hypotheses of `Obligations.TunesAreOpenedAndClosed`, clause 1.2.2.2.2. -/
theorem witness_open_taken :
    (State.Asked (on (hearing base)) ask start) ∧
    (5 ≤ List.length (openArgs 250 4096 2000)) ∧
    (1 ≤ byteAt (openArgs 250 4096 2000) 0 ∧
  byteAt (openArgs 250 4096 2000) 0 ≤ 250 ∧
    1 ≤ word16 (openArgs 250 4096 2000) 1 ∧
      word16 (openArgs 250 4096 2000) 1 ≤ 4096 ∧
        150 ≤ word16 (openArgs 250 4096 2000) 3 ∧ word16 (openArgs 250 4096 2000) 3 ≤ 2000) ∧
    ((on (hearing base)).st.pg.storing = none) ∧
    (∀ (t : Option Tune),
  t ∈ (on (hearing base)).st.pg.tunes → ∀ (u : Tune), u ∈ t → u.number ≠ byteAt (openArgs 250 4096 2000) 0) ∧
    ((on (hearing base)).st.pg.opened = none) ∧
    (List.findIdx? (fun t => Option.isNone t) (on (hearing base)).st.pg.tunes = some 0) := by decide

/-- The hypotheses of `Obligations.TunesAreOpenedAndClosed`, clause 2.1. -/
theorem witness_close_busy :
    (State.Asked (programmed storing) ask start) ∧
    (1 ≤ List.length [250]) ∧
    (Option.isSome (programmed storing).st.pg.storing = true) := by decide

/-- The hypotheses of `Obligations.TunesAreOpenedAndClosed`, clause 2.2.1. -/
theorem witness_close_state :
    (State.Asked (programmed (opened true)) ask start) ∧
    (1 ≤ List.length [249]) ∧
    ((programmed (opened true)).st.pg.storing = none) ∧
    (∀ (o : OpenTune), o ∈ (programmed (opened true)).st.pg.opened → o.tune ≠ byteAt [249] 0) := by decide

/-- The hypotheses of `Obligations.TunesAreOpenedAndClosed`, clause 2.2.2. -/
theorem witness_close_taken :
    (State.Asked (programmed (opened true)) ask start) ∧
    (1 ≤ List.length [250]) ∧
    ((programmed (opened true)).st.pg.storing = none) ∧
    ((programmed (opened true)).st.pg.opened = some { tune := 250, lastOffset := some 16, loss := true : OpenTune }) ∧
    ({ tune := 250, lastOffset := some 16, loss := true : OpenTune }.tune = byteAt [250] 0) := by decide

/-- The hypotheses of `Obligations.NotesAreAddedAndDeleted`, clause 1.1. -/
theorem witness_notes_busy :
    (State.Asked (programmed storing) ask start) ∧
    (5 ≤ List.length (noteArgs 1 16)) ∧
    (Option.isSome (programmed storing).st.pg.storing = true) := by decide

/-- The hypotheses of `Obligations.NotesAreAddedAndDeleted`, clause 1.2.1. -/
theorem witness_notes_state :
    (State.Asked (on (hearing base)) ask start) ∧
    (5 ≤ List.length (noteArgs 1 16)) ∧
    ((on (hearing base)).st.pg.storing = none) ∧
    (∀ (o : OpenTune), o ∈ (on (hearing base)).st.pg.opened → o.tune ≠ byteAt (noteArgs 1 16) 0) := by decide

/-- The hypotheses of `Obligations.NotesAreAddedAndDeleted`, clause 1.2.2.1.1. -/
theorem witness_note_range :
    (State.Asked (programmed (opened false)) ask start) ∧
    (5 ≤ List.length (noteArgs 1 15)) ∧
    (List.length (noteArgs 1 15) < 9) ∧
    ((programmed (opened false)).st.pg.storing = none) ∧
    ((programmed (opened false)).st.pg.opened = some { tune := 250, lastOffset := some 16, loss := false : OpenTune }) ∧
    ({ tune := 250, lastOffset := some 16, loss := false : OpenTune }.tune = byteAt (noteArgs 1 15) 0) ∧
    (¬(1 ≤ (noteAt (noteArgs 1 15) 1).bell ∧
    (noteAt (noteArgs 1 15) 1).bell ≤ 64 ∧
      Option.getD { tune := 250, lastOffset := some 16, loss := false : OpenTune }.lastOffset 0 ≤
        (noteAt (noteArgs 1 15) 1).offset)) := by decide

/-- The hypotheses of `Obligations.NotesAreAddedAndDeleted`, clause 1.2.2.1.2.1. -/
theorem witness_note_foreign :
    (State.Asked (programmed (opened false)) ask start) ∧
    (5 ≤ List.length (noteArgs 64 16)) ∧
    (List.length (noteArgs 64 16) < 9) ∧
    ((programmed (opened false)).st.pg.storing = none) ∧
    ((programmed (opened false)).st.pg.opened = some { tune := 250, lastOffset := some 16, loss := false : OpenTune }) ∧
    ({ tune := 250, lastOffset := some 16, loss := false : OpenTune }.tune = byteAt (noteArgs 64 16) 0) ∧
    (1 ≤ (noteAt (noteArgs 64 16) 1).bell ∧
  (noteAt (noteArgs 64 16) 1).bell ≤ 64 ∧
    Option.getD { tune := 250, lastOffset := some 16, loss := false : OpenTune }.lastOffset 0 ≤
      (noteAt (noteArgs 64 16) 1).offset) ∧
    (StationBlock.isOwn (programmed (opened false)).st.cfg (noteAt (noteArgs 64 16) 1).bell = false) := by decide

/-- The hypotheses of `Obligations.NotesAreAddedAndDeleted`, clause 1.2.2.1.2.2.1. -/
theorem witness_note_lost :
    (State.Asked (programmed (opened true)) ask start) ∧
    (5 ≤ List.length (noteArgs 2 16)) ∧
    (List.length (noteArgs 2 16) < 9) ∧
    ((programmed (opened true)).st.pg.storing = none) ∧
    ((programmed (opened true)).st.pg.opened = some { tune := 250, lastOffset := some 16, loss := true : OpenTune }) ∧
    ({ tune := 250, lastOffset := some 16, loss := true : OpenTune }.tune = byteAt (noteArgs 2 16) 0) ∧
    (1 ≤ (noteAt (noteArgs 2 16) 1).bell ∧
  (noteAt (noteArgs 2 16) 1).bell ≤ 64 ∧
    Option.getD { tune := 250, lastOffset := some 16, loss := true : OpenTune }.lastOffset 0 ≤
      (noteAt (noteArgs 2 16) 1).offset) ∧
    (StationBlock.isOwn (programmed (opened true)).st.cfg (noteAt (noteArgs 2 16) 1).bell = true) ∧
    ({ tune := 250, lastOffset := some 16, loss := true : OpenTune }.loss = true ∨
  2048 ≤ List.length (programmed (opened true)).st.pg.notes) := by decide

/-- The hypotheses of `Obligations.NotesAreAddedAndDeleted`, clause 1.2.2.1.2.2.2. -/
theorem witness_note_kept :
    (State.Asked (programmed (opened false)) ask start) ∧
    (5 ≤ List.length (noteArgs 2 16)) ∧
    (List.length (noteArgs 2 16) < 9) ∧
    ((programmed (opened false)).st.pg.storing = none) ∧
    ((programmed (opened false)).st.pg.opened = some { tune := 250, lastOffset := some 16, loss := false : OpenTune }) ∧
    ({ tune := 250, lastOffset := some 16, loss := false : OpenTune }.tune = byteAt (noteArgs 2 16) 0) ∧
    (1 ≤ (noteAt (noteArgs 2 16) 1).bell ∧
  (noteAt (noteArgs 2 16) 1).bell ≤ 64 ∧
    Option.getD { tune := 250, lastOffset := some 16, loss := false : OpenTune }.lastOffset 0 ≤
      (noteAt (noteArgs 2 16) 1).offset) ∧
    (StationBlock.isOwn (programmed (opened false)).st.cfg (noteAt (noteArgs 2 16) 1).bell = true) ∧
    ({ tune := 250, lastOffset := some 16, loss := false : OpenTune }.loss = false) ∧
    (List.length (programmed (opened false)).st.pg.notes < 2048) := by decide

/-- The hypotheses of `Obligations.NotesAreAddedAndDeleted`, clause 2.1. -/
theorem witness_delete_busy :
    (State.Asked (programmed storing) ask start) ∧
    (1 ≤ List.length [250]) ∧
    (Option.isSome (programmed storing).st.pg.storing = true) := by decide

/-- The hypotheses of `Obligations.NotesAreAddedAndDeleted`, clause 2.2.1. -/
theorem witness_delete_range :
    (State.Asked (on (hearing base)) ask start) ∧
    (1 ≤ List.length [251]) ∧
    ((on (hearing base)).st.pg.storing = none) ∧
    (byteAt [251] 0 = 0 ∨ 250 < byteAt [251] 0) := by decide

/-- The hypotheses of `Obligations.NotesAreAddedAndDeleted`, clause 2.2.2.1. -/
theorem witness_delete_state :
    (State.Asked (on (hearing base)) ask start) ∧
    (1 ≤ List.length [250]) ∧
    ((on (hearing base)).st.pg.storing = none) ∧
    (1 ≤ byteAt [250] 0) ∧
    (byteAt [250] 0 ≤ 250) ∧
    ((∀ (t : Option Tune), t ∈ (on (hearing base)).st.pg.tunes → ∀ (u : Tune), u ∈ t → u.number ≠ byteAt [250] 0) ∨
  ∃ r,
    r ∈ (on (hearing base)).st.pf.table ∧
      ∃ x, x ∈ r ∧ (x.key.cls = PerfClass.tune ∨ x.key.cls = PerfClass.quarter) ∧ x.key.number = byteAt [250] 0) := by decide

/-- The hypotheses of `Obligations.NotesAreAddedAndDeleted`, clause 2.2.2.2. -/
theorem witness_delete_taken :
    (State.Asked (programmed twoTunes) ask start) ∧
    (1 ≤ List.length [1]) ∧
    ((programmed twoTunes).st.pg.storing = none) ∧
    (1 ≤ byteAt [1] 0) ∧
    (byteAt [1] 0 ≤ 250) ∧
    (∀ (r : Option Record),
  r ∈ (programmed twoTunes).st.pf.table →
    ∀ (x : Record), x ∈ r → x.key.cls = PerfClass.tune ∨ x.key.cls = PerfClass.quarter → x.key.number ≠ byteAt [1] 0) ∧
    ((programmed twoTunes).st.pg.tunes[0]? = some (some (aTune 1 TuneState.ready))) ∧
    ((aTune 1 TuneState.ready).number = byteAt [1] 0) ∧
    (∀ (j : Nat),
  j < List.length (programmed twoTunes).st.pg.tunes →
    ∀ (u : Tune), u ∈ List.getD (programmed twoTunes).st.pg.tunes j none → u.number = byteAt [1] 0 → j = 0) := by decide

/-- The hypotheses of `Obligations.StoreWritesTheBlocks`, clause 1.1. -/
theorem witness_store_busy :
    (State.Asked (programmed storing) ask start) ∧
    (Option.isSome (programmed storing).st.pg.storing = true) := by decide

/-- The hypotheses of `Obligations.StoreWritesTheBlocks`, clause 1.2.1. -/
theorem witness_store_state :
    (State.Asked (programmed (opened false)) ask start) ∧
    ((programmed (opened false)).st.pg.storing = none) ∧
    (Option.isSome (programmed (opened false)).st.pg.opened = true) := by decide

/-- The hypotheses of `Obligations.StoreWritesTheBlocks`, clause 1.2.2. -/
theorem witness_store_taken :
    (State.Asked (on (hearing base)) askAll start) ∧
    ((on (hearing base)).st.pg.storing = none) ∧
    ((on (hearing base)).st.pg.opened = none) := by decide

/-- The hypotheses of `Obligations.StoreWritesTheBlocks`, clause 2.1. -/
theorem witness_store_completes :
    (State.settled storeCompletesCase) ∧
    (State.memoryKept storeCompletesCase) ∧
    (storeCompletesCase.st.pg.storing = some { answerTo := some (14, 9) : StoreInFlight }) ∧
    (List.length storeCompletesCase.st.pg.tunes = 64) ∧
    (List.length storeCompletesCase.st.pg.notes ≤ 2048) ∧
    (List.length storeCompletesCase.st.pg.calendar = 96) ∧
    (List.length storeCompletesCase.st.pg.dusk = 46) ∧
    (List.length storeCompletesCase.st.pg.scenes = 16) := by decide

/-- The hypotheses of `Obligations.StoreWritesTheBlocks`, clause 2.1. -/
theorem witness_store_fails :
    (State.settled storeFailsCase) ∧
    (State.memoryKept storeFailsCase) ∧
    (storeFailsCase.st.pg.storing = some { answerTo := some (14, 9) : StoreInFlight }) ∧
    (List.length storeFailsCase.st.pg.tunes = 64) ∧
    (List.length storeFailsCase.st.pg.notes ≤ 2048) ∧
    (List.length storeFailsCase.st.pg.calendar = 96) ∧
    (List.length storeFailsCase.st.pg.dusk = 46) ∧
    (List.length storeFailsCase.st.pg.scenes = 16) := by decide

/-- The hypotheses of `Obligations.StoreWritesTheBlocks`, clause 2.2. -/
theorem witness_no_store :
    ((on base).st.pg.storing = none) := by decide

/-- The hypotheses of `Obligations.SupplyLossReleasesTheStation`, clause 1. -/
theorem witness_supply_falls :
    (State.settled supplyFallsCase) ∧
    (supplyFallsCase.st.seq.state ≠ RunState.supplyWait) := by decide

/-- The hypotheses of `Obligations.SupplyLossReleasesTheStation`, clause 2.1. -/
theorem witness_supply_is_out :
    (State.settled (waitingSupply false true)) ∧
    ((waitingSupply false true).st.seq.state = RunState.supplyWait) := by decide

/-- The hypotheses of `Obligations.SupplyLossReleasesTheStation`, clause 2.2. -/
theorem witness_backup_low :
    (State.settled (on base)) := by decide

/-- The hypotheses of `Obligations.StartMomentSetsTheBlocks`. -/
theorem witness_cold_start :
    (State.settled (waitingSupply true false)) ∧
    ((waitingSupply true false).st.seq.state = RunState.supplyWait) := by decide

/-- The hypotheses of `Obligations.StartMomentSetsTheBlocks`. -/
theorem witness_restore_start :
    (State.settled (waitingSupply true true)) ∧
    ((waitingSupply true true).st.seq.state = RunState.supplyWait) := by decide

/-- The hypotheses of `Obligations.StartMomentSetsTheBlocks`. -/
theorem witness_warm_start :
    (State.settled (waitingSupply false false)) ∧
    ((waitingSupply false false).st.seq.state = RunState.supplyWait) := by decide

/-- The hypotheses of `Obligations.RestartEntersListening`, clause 1. -/
theorem witness_restart_line :
    (State.settled (on (withBell (panelBell 0)))) ∧
    (Station.inService (on (withBell (panelBell 0))).st = true) ∧
    ((on (withBell (panelBell 0))).st.bus.queue = []) := by decide

/-- The hypotheses of `Obligations.RestartEntersListening`, clause 2.1. -/
theorem witness_restart_line_not :
    (State.settled (waitingSupply true true)) ∧
    (Station.inService (waitingSupply true true).st = false) := by decide

/-- The hypotheses of `Obligations.RestartEntersListening`, clause 2.2.1.1. -/
theorem witness_restart_all :
    (State.settled (on (hearing base))) ∧
    (State.Asked (on (hearing base)) askAll start) ∧
    (askAll.target ≠ (on (hearing base)).st.cfg.number) ∧
    ((on (hearing base)).st.bus.queue = []) := by decide

/-- The hypotheses of `Obligations.RestartEntersListening`, clause 2.2.1.2.1. -/
theorem witness_restart_mute :
    (State.settled (on (hearing (muted base)))) ∧
    (State.Asked (on (hearing (muted base))) ask start) ∧
    (ask.target = (on (hearing (muted base))).st.cfg.number) ∧
    (Bus.mayQueue (on (hearing (muted base))).st.bus = false) ∧
    ((on (hearing (muted base))).st.bus.queue = []) := by decide

/-- The hypotheses of `Obligations.RestartEntersListening`, clause 2.2.1.2.2. -/
theorem witness_restart_asked :
    (State.settled (on (hearing base))) ∧
    (State.Asked (on (hearing base)) ask start) ∧
    (ask.target = (on (hearing base)).st.cfg.number) ∧
    (Bus.mayQueue (on (hearing base)).st.bus = true) ∧
    (List.length (on (hearing base)).st.bus.queue < 8) := by decide

/-- The hypotheses of `Obligations.RestartEntersListening`, clause 2.2.2. -/
theorem witness_restart_reported :
    (State.settled (on (sending base restartAnswer))) ∧
    (Station.running (on (sending base restartAnswer)).st = true) ∧
    (Bus.mayQueue (on (sending base restartAnswer)).st.bus = true) ∧
    (Bus.agrees (on (sending base restartAnswer)).st.bus) ∧
    ((on (sending base restartAnswer)).st.bus.current =
  some
    { capture := start,
      role := Role.sending { frame := restartAnswer, age := 4, errors := 0, unheard := 0 : QueueSlot }.age :
      FrameInProgress }) ∧
    ((on (sending base restartAnswer)).st.bus.queue =
  [{ frame := restartAnswer, age := 4, errors := 0, unheard := 0 : QueueSlot }]) ∧
    ((on (sending base restartAnswer)).st.bus.heldMark = false) ∧
    ({ frame := restartAnswer, age := 4, errors := 0, unheard := 0 : QueueSlot }.frame =
  Frame.answer 14 9 20 ReqOutcome.done [] true) := by decide

/-- The hypotheses of `Obligations.ReadsAnswerTheState`, clause 1.1. -/
theorem witness_status_0 :
    (State.Asked (on (hearing base)) ask start) ∧
    (1 ≤ List.length [0]) ∧
    (byteAt [0] 0 = 0) := by decide

/-- The hypotheses of `Obligations.ReadsAnswerTheState`, clause 1.2.1. -/
theorem witness_status_1 :
    (State.Asked (on (hearing base)) ask start) ∧
    (1 ≤ List.length [1]) ∧
    (byteAt [1] 0 = 1) := by decide

/-- The hypotheses of `Obligations.ReadsAnswerTheState`, clause 1.2.2.1. -/
theorem witness_status_2 :
    (State.Asked (on (hearing base)) ask start) ∧
    (1 ≤ List.length [2]) ∧
    (byteAt [2] 0 = 2) := by decide

/-- The hypotheses of `Obligations.ReadsAnswerTheState`, clause 1.2.2.2.1. -/
theorem witness_status_range :
    (State.Asked (on (hearing base)) ask start) ∧
    ([3] = [] ∨ 2 < byteAt [3] 0) := by decide

/-- The hypotheses of `Obligations.ReadsAnswerTheState`, clause 1.2.2.2.2.1. -/
theorem witness_read_time :
    (State.Asked (on (hearing base)) ask start) := by decide

/-- The hypotheses of `Obligations.ReadsAnswerTheState`, clause 1.2.2.2.2.2.1. -/
theorem witness_clear_summary :
    (State.Asked clearSummaryCase ask start) := by decide

/-- The hypotheses of `Obligations.ReadsAnswerTheState`, clause 1.2.2.2.2.2.2.1. -/
theorem witness_item_absent :
    (State.Asked (on (hearing base)) ask start) ∧
    (4 ≤ List.length [9, 0, 95, 0]) ∧
    (byteAt [9, 0, 95, 0] 0 ≠ 8) ∧
    (Station.item (Station.heard (on (hearing base)).st) (byteAt [9, 0, 95, 0] 0) (word16 [9, 0, 95, 0] 1) = some none) ∧
    (byteAt [9, 0, 95, 0] 3 = 0) := by decide

/-- The hypotheses of `Obligations.ReadsAnswerTheState`, clause 1.2.2.2.2.2.2.2. -/
theorem witness_note_absent :
    (State.Asked (on (hearing base)) ask start) ∧
    (5 ≤ List.length [8, 250, 7, 255, 0]) ∧
    (byteAt [8, 250, 7, 255, 0] 0 = 8) ∧
    (Station.noteItem (Station.heard (on (hearing base)).st) (byteAt [8, 250, 7, 255, 0] 1) (word16 [8, 250, 7, 255, 0] 2) =
  some none) ∧
    (byteAt [8, 250, 7, 255, 0] 4 = 0) := by decide

/-- The hypotheses of `Obligations.MemoryReadsWhatWasWritten`, clause 1. -/
theorem witness_memory_read :
    (Memory.wf [(5, 1), (9, 2)] = true) ∧
    (16383 < Config.memBytes) := by decide

/-- The hypotheses of `Obligations.ReceiverReadsWhatWasSent`. -/
theorem witness_frame_read :
    (1023 < 1024) ∧
    (List.length (List.replicate 12 255) ≤ 12) := by decide

/-- The hypotheses of `Obligations.SecondsSpreadTheCorrection`, clause 1. -/
theorem witness_local_second :
    (State.settled secondDue) ∧
    (secondDue.st.tb.secondDue = true) := by decide

/-- The hypotheses of `Obligations.SecondsSpreadTheCorrection`, clause 2.1.1.2.1. -/
theorem witness_free_given_up :
    (State.settled (freeWaits { sec := 850, cyc := 100 : RunTime } base)) ∧
    ((freeWaits { sec := 850, cyc := 100 : RunTime } base).st.tb.secondDue = true) ∧
    (Station.running (freeWaits { sec := 850, cyc := 100 : RunTime } base).st = true) ∧
    ((freeWaits { sec := 850, cyc := 100 : RunTime } base).st.sup.frees =
  [{ id := 1, announced := some { sec := 850, cyc := 100 : RunTime } : PendingFree }]) ∧
    ((freeWaits { sec := 850, cyc := 100 : RunTime } base).st.sup.waiting = []) ∧
    ((freeWaits { sec := 850, cyc := 100 : RunTime } base).st.sup.incomplete = false) ∧
    (∃ a,
  a ∈ { id := 1, announced := some { sec := 850, cyc := 100 : RunTime } : PendingFree }.announced ∧
    150 * 32768 ≤ RunTime.elapsed a (freeWaits { sec := 850, cyc := 100 : RunTime } base).st.tb.run) := by decide

/-- The hypotheses of `Obligations.SecondsSpreadTheCorrection`, clause 2.1.1.2.2.1. -/
theorem witness_free_queued :
    (State.settled (freeWaits { sec := 850, cyc := 101 : RunTime } base)) ∧
    ((freeWaits { sec := 850, cyc := 101 : RunTime } base).st.tb.secondDue = true) ∧
    (Station.running (freeWaits { sec := 850, cyc := 101 : RunTime } base).st = true) ∧
    ((freeWaits { sec := 850, cyc := 101 : RunTime } base).st.sup.frees =
  [{ id := 1, announced := some { sec := 850, cyc := 101 : RunTime } : PendingFree }]) ∧
    ((freeWaits { sec := 850, cyc := 101 : RunTime } base).st.sup.waiting = []) ∧
    ((freeWaits { sec := 850, cyc := 101 : RunTime } base).st.sup.incomplete = false) ∧
    (¬∃ a,
    a ∈ { id := 1, announced := some { sec := 850, cyc := 101 : RunTime } : PendingFree }.announced ∧
      150 * 32768 ≤ RunTime.elapsed a (freeWaits { sec := 850, cyc := 101 : RunTime } base).st.tb.run) ∧
    (Bus.mayQueue (freeWaits { sec := 850, cyc := 101 : RunTime } base).st.bus = true) ∧
    (List.length (freeWaits { sec := 850, cyc := 101 : RunTime } base).st.bus.queue < 8) := by decide

/-- The hypotheses of `Obligations.SecondsSpreadTheCorrection`, clause 2.1.1.2.2.2. -/
theorem witness_free_stays :
    (State.settled (freeWaits { sec := 850, cyc := 101 : RunTime } (muted base))) ∧
    ((freeWaits { sec := 850, cyc := 101 : RunTime } (muted base)).st.tb.secondDue = true) ∧
    (Station.running (freeWaits { sec := 850, cyc := 101 : RunTime } (muted base)).st = true) ∧
    ((freeWaits { sec := 850, cyc := 101 : RunTime } (muted base)).st.sup.frees =
  [{ id := 1, announced := some { sec := 850, cyc := 101 : RunTime } : PendingFree }]) ∧
    ((freeWaits { sec := 850, cyc := 101 : RunTime } (muted base)).st.sup.waiting = []) ∧
    ((freeWaits { sec := 850, cyc := 101 : RunTime } (muted base)).st.sup.incomplete = false) ∧
    (¬∃ a,
    a ∈ { id := 1, announced := some { sec := 850, cyc := 101 : RunTime } : PendingFree }.announced ∧
      150 * 32768 ≤ RunTime.elapsed a (freeWaits { sec := 850, cyc := 101 : RunTime } (muted base)).st.tb.run) ∧
    (Bus.mayQueue (freeWaits { sec := 850, cyc := 101 : RunTime } (muted base)).st.bus = false ∨
  8 ≤ List.length (freeWaits { sec := 850, cyc := 101 : RunTime } (muted base)).st.bus.queue) := by decide

/-- The hypotheses of `Obligations.SecondsSpreadTheCorrection`, clause 2.1.2. -/
theorem witness_view_look :
    (State.settled viewLook) ∧
    (viewLook.st.tb.secondDue = true) ∧
    (Station.inService viewLook.st = true) ∧
    (viewLook.st.sup.frees = []) ∧
    (viewLook.st.sup.waiting = []) ∧
    (viewLook.st.sup.incomplete = true) ∧
    (viewLook.st.sup.lastOverflow = some { sec := 850, cyc := 100 : RunTime }) := by decide

/-- The hypotheses of `Obligations.SecondsSpreadTheCorrection`, clause 2.2.1. -/
theorem witness_backup_second :
    (State.settled backupDue) ∧
    (backupDue.st.tb.backupDue = true) := by decide

/-- The hypotheses of `Obligations.SecondsSpreadTheCorrection`, clause 2.2.2.1. -/
theorem witness_second_sum :
    (32768 ≤ 32768) := by decide

/-- The hypotheses of `Obligations.SecondsSpreadTheCorrection`, clause 2.2.2.2. -/
theorem witness_second_bounds :
    (-200000 ≤ secondBoundsCase.rate) ∧
    (secondBoundsCase.rate ≤ 200000) ∧
    (-999 ≤ secondBoundsCase.rho) ∧
    (secondBoundsCase.rho ≤ 999) := by decide

/-- The hypotheses of `Obligations.TimesDifferAndCross`, clause 1.1. -/
theorem witness_times_differ :
    ({ day := 65535, us := 86399999999 : TowerTime }.day < 65536) ∧
    ({ day := 65535, us := 86399999999 : TowerTime }.us < 86400000000) ∧
    (-2831068800000000 ≤ -2831068800000000) ∧
    (-2831068800000000 ≤ 2831068800000000) := by decide

/-- The hypotheses of `Obligations.TimesDifferAndCross`, clause 1.1. -/
theorem witness_times_differ2 :
    ({ day := 0, us := 0 : TowerTime }.day < 65536) ∧
    ({ day := 0, us := 0 : TowerTime }.us < 86400000000) ∧
    (-2831068800000000 ≤ 2831068800000000) ∧
    (2831068800000000 ≤ 2831068800000000) := by decide

/-- The hypotheses of `Obligations.TimesDifferAndCross`, clause 1.2. -/
theorem witness_civil_time :
    ({ day := 65535, us := 86399999999 : TowerTime }.day < 65536) ∧
    ({ day := 65535, us := 86399999999 : TowerTime }.us < 86400000000) ∧
    (180 ≤ 180) := by decide

/-- The hypotheses of `Obligations.TimesDifferAndCross`, clause 2.1.2.2.2.2.2.2. -/
theorem witness_midnight :
    (State.settled lastCycle) ∧
    (TimeBase.quiet lastCycle.st.tb) ∧
    (TimeBase.inRange lastCycle.st.tb) ∧
    (lastCycle.st.tb.offset ≤ 180) ∧
    (Station.running lastCycle.st = true ∧ lastCycle.st.tb.valid = true) ∧
    (-66 ≤ lastCycle.st.tb.q) ∧
    (lastCycle.st.tb.q ≤ 65) ∧
    ((TowerTime.plus (TimeBase.now lastCycle.st.tb) (↑(lastCycle.st.tb.offset * 60000000) : Int)).day ≠
  (TowerTime.plus
      (TimeBase.now
        (Station.crystalCycle lastCycle.st { rest := 0, twelve := 0, feedback := 0, backup := true : Inputs }).tb)
      (↑(lastCycle.st.tb.offset * 60000000) : Int)).day) := by decide

/-- The hypotheses of `Obligations.TimesDifferAndCross`, clause 2.2.1.1. -/
theorem witness_first_mark :
    (Station.running base = true) ∧
    (base.tb.valid = true) ∧
    (base.pg.scanMark = none) := by decide

/-- The hypotheses of `Obligations.TimesDifferAndCross`, clause 2.2.1.2.1. -/
theorem witness_step_back :
    (Station.running (oneEntry tuneEntry base) = true) ∧
    ((oneEntry tuneEntry base).tb.valid = true) ∧
    ((oneEntry tuneEntry base).pg.scanMark ≠ none) ∧
    (0 ≤ 0) := by decide

/-- The hypotheses of `Obligations.TimesDifferAndCross`, clause 2.2.1.2.2.1. -/
theorem witness_long_span :
    (Station.running (oneEntry tuneEntry base) = true) ∧
    ((oneEntry tuneEntry base).tb.valid = true) ∧
    ((oneEntry tuneEntry base).pg.scanMark ≠ none) ∧
    (0 < 86400000001) ∧
    (1440 <
  ((↑{ day := 8999, us := 35999999999 : TowerTime }.us : Int) + 86400000001) / 60000000 -
    (↑{ day := 8999, us := 35999999999 : TowerTime }.us : Int) / 60000000) := by decide

/-- The hypotheses of `Obligations.TimesDifferAndCross`, clause 2.2.1.2.2.2. -/
theorem witness_short_span :
    (Station.running (oneEntry tuneEntry base) = true) ∧
    ((oneEntry tuneEntry base).tb.valid = true) ∧
    ((oneEntry tuneEntry base).pg.scanMark ≠ none) ∧
    (0 < 86400000000) ∧
    (((↑{ day := 8999, us := 36000000000 : TowerTime }.us : Int) + 86400000000) / 60000000 -
    (↑{ day := 8999, us := 36000000000 : TowerTime }.us : Int) / 60000000 ≤
  1440) ∧
    (∀ (c : Option CalendarSlot),
  c ∈ (oneEntry tuneEntry base).pg.calendar → ∀ (e : CalendarSlot), e ∈ c → CalendarWork.code e.entry.work ≠ 6) := by decide

/-- The hypotheses of `Obligations.TimesDifferAndCross`, clause 2.2.1.2.2.1. -/
theorem witness_wrapping_span :
    (Station.running (oneEntry tuneEntry base) = true) ∧
    ((oneEntry tuneEntry base).tb.valid = true) ∧
    ((oneEntry tuneEntry base).pg.scanMark ≠ none) ∧
    (0 < 2831155199999000) ∧
    (1440 <
  ((↑{ day := 41768, us := 36000001000 : TowerTime }.us : Int) + 2831155199999000) / 60000000 -
    (↑{ day := 41768, us := 36000001000 : TowerTime }.us : Int) / 60000000) := by decide

/-- The hypotheses of `Obligations.TimesDifferAndCross`, clause 2.2.2.1. -/
theorem witness_walked_offset :
    (List.filter (fun d => Work.isOffset d.snd.snd)
    (Station.due (oneEntry (offsetEntry 60) base)
      {
        civilDay :=
          (TowerTime.civil { day := 9000, us := 36000000000 : TowerTime }
              (oneEntry (offsetEntry 60) base).tb.offset).day,
        civilMinute :=
          TowerTime.minute
            (TowerTime.civil { day := 9000, us := 36000000000 : TowerTime } (oneEntry (offsetEntry 60) base).tb.offset),
        towerDay := { day := 9000, us := 36000000000 : TowerTime }.day,
        towerMinute := TowerTime.minute { day := 9000, us := 36000000000 : TowerTime } : MinuteEvent }) =
  [(0, 0, Work.offset 60)]) := by decide

/-- The hypotheses of `Obligations.MarkMomentsAreArmedAndSent`, clause 1.1. -/
theorem witness_tower_second :
    (State.settled towerDue) ∧
    (towerDue.st.tb.towerSecondDue = some { day := 9000, us := 36001000000 : TowerTime }) := by decide

/-- The hypotheses of `Obligations.MarkMomentsAreArmedAndSent`, clause 1.2.1. -/
theorem witness_mark_moments :
    (markMomentsCase.markPeriod = 8 ∨ markMomentsCase.markPeriod = 16 ∨ markMomentsCase.markPeriod = 32) ∧
    (markMomentsCase.number ≤ 14) := by decide

/-- The hypotheses of `Obligations.MarkMomentsAreArmedAndSent`, clause 1.2.2. -/
theorem witness_mark_moments_run :
    (markMomentsCase.markPeriod = 8 ∨ markMomentsCase.markPeriod = 16 ∨ markMomentsCase.markPeriod = 32) ∧
    (markMomentsCase.number ≤ 14) := by decide

/-- The hypotheses of `Obligations.MarkMomentsAreArmedAndSent`, clause 2.1. -/
theorem witness_mark_moment :
    (State.settled markDue) ∧
    (Station.markReached markDue.st = true) ∧
    (Station.running markDue.st = true) ∧
    (∀ (q : QueueSlot), q ∈ markDue.st.bus.queue → Frame.isMark q.frame = false) := by decide

/-- The hypotheses of `Obligations.CivilBoundariesAreTaken`, clause 1.1. -/
theorem witness_minute_scan :
    (State.settled minuteDue) ∧
    (minuteDue.st.tb.minuteDue =
  some { civilDay := 9000, civilMinute := 600, towerDay := 9000, towerMinute := 600 : MinuteEvent }) ∧
    (minuteDue.st.pg.calendar = List.replicate 96 none) := by decide

/-- The hypotheses of `Obligations.CivilBoundariesAreTaken`, clause 1.2. -/
theorem witness_light_scan :
    (State.settled lightDue) ∧
    (lightDue.st.tb.minuteDue =
  some { civilDay := 9000, civilMinute := 600, towerDay := 9000, towerMinute := 600 : MinuteEvent }) ∧
    (lightDue.st.pg.calendar =
  some
      {
        entry :=
          { selector := Selector.weekly 127, work := CalendarWork.light (LightTime.fixed 600) 2 : CalendarEntry },
        fired := [some { run := { sec := 900, cyc := 0 : RunTime }, minute := 599 : LastFired }] : CalendarSlot } ::
    List.replicate 95 none) ∧
    (Programme.lightMinute lightDue.st.pg
    { civilDay := 9000, civilMinute := 600, towerDay := 9000, towerMinute := 600 : MinuteEvent }.civilDay
    lightDue.st.tb.offset (LightTime.fixed 600) =
  some { civilDay := 9000, civilMinute := 600, towerDay := 9000, towerMinute := 600 : MinuteEvent }.civilMinute) ∧
    (Selector.selects (Selector.weekly 127)
    { civilDay := 9000, civilMinute := 600, towerDay := 9000, towerMinute := 600 : MinuteEvent }.civilDay =
  true) ∧
    (firedAllows (some { run := { sec := 900, cyc := 0 : RunTime }, minute := 599 : LastFired }) lightDue.st.tb.run
    { civilDay := 9000, civilMinute := 600, towerDay := 9000, towerMinute := 600 : MinuteEvent }.civilMinute =
  true) ∧
    (∀ (c : Circuit), c ∈ lightDue.st.sup.circuits → c.state = CircuitState.unused) := by decide

/-- The hypotheses of `Obligations.CivilBoundariesAreTaken`, clause 2.1.1. -/
theorem witness_cue_fires :
    (State.settled tuneDue) ∧
    (tuneDue.st.tb.minuteDue =
  some { civilDay := 9000, civilMinute := 600, towerDay := 9000, towerMinute := 600 : MinuteEvent }) ∧
    (tuneDue.st.pg.calendar = some { entry := tuneEntry, fired := [none] : CalendarSlot } :: List.replicate 95 none) ∧
    (CalendarSlot.due { entry := tuneEntry, fired := [none] : CalendarSlot } tuneDue.st.pg tuneDue.st.cfg.cueCapable
    tuneDue.st.tb.offset tuneDue.st.tb.run
    { civilDay := 9000, civilMinute := 600, towerDay := 9000, towerMinute := 600 : MinuteEvent } =
  some (0, Work.cue { cls := PerfClass.tune, number := 250, quarter := 0, day := 9000, minute := 600 : Key } 0 0)) := by decide

/-- The hypotheses of `Obligations.CivilBoundariesAreTaken`, clause 2.1.2.1. -/
theorem witness_offset_same :
    (State.settled (offsetDue 0)) ∧
    ((offsetDue 0).st.tb.minuteDue =
  some { civilDay := 9000, civilMinute := 600, towerDay := 9000, towerMinute := 600 : MinuteEvent }) ∧
    ((offsetDue 0).st.pg.calendar =
  some
      {
        entry :=
          { selector := Selector.weekly 127,
            work :=
              CalendarWork.offset
                { civilDay := 9000, civilMinute := 600, towerDay := 9000, towerMinute := 600 : MinuteEvent }.towerMinute
                0 :
            CalendarEntry },
        fired := [none] : CalendarSlot } ::
    List.replicate 95 none) ∧
    (Selector.selects (Selector.weekly 127)
    { civilDay := 9000, civilMinute := 600, towerDay := 9000, towerMinute := 600 : MinuteEvent }.towerDay =
  true) ∧
    (firedAllows none (offsetDue 0).st.tb.run
    { civilDay := 9000, civilMinute := 600, towerDay := 9000, towerMinute := 600 : MinuteEvent }.civilMinute =
  true) ∧
    (Station.running (offsetDue 0).st = true) ∧
    ((offsetDue 0).st.tb.valid = true) ∧
    ((offsetDue 0).st.cfg.hourBell = none) ∧
    (∀ (r : Option Record), r ∈ (offsetDue 0).st.pf.table → r = none) ∧
    (∀ (x : Dial), x ∈ (offsetDue 0).st.dials → x.state = DialState.unused) ∧
    (∀ (c : Circuit), c ∈ (offsetDue 0).st.sup.circuits → c.state = CircuitState.unused) ∧
    (0 = (offsetDue 0).st.tb.offset) := by decide

/-- The hypotheses of `Obligations.CivilBoundariesAreTaken`, clause 2.1.2.2. -/
theorem witness_offset_changes :
    (State.settled (offsetDue 180)) ∧
    ((offsetDue 180).st.tb.minuteDue =
  some { civilDay := 9000, civilMinute := 600, towerDay := 9000, towerMinute := 600 : MinuteEvent }) ∧
    ((offsetDue 180).st.pg.calendar =
  some
      {
        entry :=
          { selector := Selector.weekly 127,
            work :=
              CalendarWork.offset
                { civilDay := 9000, civilMinute := 600, towerDay := 9000, towerMinute := 600 : MinuteEvent }.towerMinute
                180 :
            CalendarEntry },
        fired := [none] : CalendarSlot } ::
    List.replicate 95 none) ∧
    (Selector.selects (Selector.weekly 127)
    { civilDay := 9000, civilMinute := 600, towerDay := 9000, towerMinute := 600 : MinuteEvent }.towerDay =
  true) ∧
    (firedAllows none (offsetDue 180).st.tb.run
    { civilDay := 9000, civilMinute := 600, towerDay := 9000, towerMinute := 600 : MinuteEvent }.civilMinute =
  true) ∧
    (Station.running (offsetDue 180).st = true) ∧
    ((offsetDue 180).st.tb.valid = true) ∧
    ((offsetDue 180).st.cfg.hourBell = none) ∧
    (∀ (r : Option Record), r ∈ (offsetDue 180).st.pf.table → r = none) ∧
    (∀ (x : Dial), x ∈ (offsetDue 180).st.dials → x.state = DialState.unused) ∧
    (∀ (c : Circuit), c ∈ (offsetDue 180).st.sup.circuits → c.state = CircuitState.unused) ∧
    (180 ≠ (offsetDue 180).st.tb.offset) := by decide

/-- The hypotheses of `Obligations.CivilBoundariesAreTaken`, clause 2.2.2.2.1. -/
theorem witness_civil_quarter :
    (State.settled quarterDue) ∧
    (quarterDue.st.tb.quarterDue =
  some { quarter := 4, civilHour := 10, towerDay := 9000, towerMinute := 600 : QuarterEvent }) := by decide

/-- The hypotheses of `Obligations.CivilBoundariesAreTaken`, clause 2.2.2.2.2.1.1. -/
theorem witness_hour_suppressed :
    (State.settled hourSoon) ∧
    (hourSoon.st.tb.hourDue = some { civilHour := 0, civilDay := 9000, towerDay := 9000, towerMinute := 0 : HourEvent }) ∧
    (hourSoon.st.cfg.hourBell = some 1) ∧
    (StationBlock.isOwn hourSoon.st.cfg 1 = true) ∧
    (hourSoon.st.pf.silenced = false) ∧
    (hourSoon.st.tb.valid = true) ∧
    (Programme.silentAt hourSoon.st.pg
      { civilHour := 0, civilDay := 9000, towerDay := 9000, towerMinute := 0 : HourEvent }.civilDay
      ({ civilHour := 0, civilDay := 9000, towerDay := 9000, towerMinute := 0 : HourEvent }.civilHour * 60) =
    true ∨
  (∃ t, t ∈ hourSoon.st.pf.lastHour ∧ RunTime.elapsed t hourSoon.st.tb.run < 3000 * 32768) ∨
    Option.isSome (Station.record hourSoon.st 0) = true ∨
      Performances.isRecent hourSoon.st.pf
          { cls := PerfClass.hour, number := 0, quarter := 0,
            day := { civilHour := 0, civilDay := 9000, towerDay := 9000, towerMinute := 0 : HourEvent }.towerDay,
            minute := { civilHour := 0, civilDay := 9000, towerDay := 9000, towerMinute := 0 : HourEvent }.towerMinute :
            Key } =
        true) := by decide

/-- The hypotheses of `Obligations.CivilBoundariesAreTaken`, clause 2.2.2.2.2.1.2. -/
theorem witness_hour_made :
    (State.settled hourDue) ∧
    (hourDue.st.tb.hourDue = some { civilHour := 10, civilDay := 9000, towerDay := 9000, towerMinute := 600 : HourEvent }) ∧
    (hourDue.st.cfg.hourBell = some 1) ∧
    (StationBlock.isOwn hourDue.st.cfg 1 = true) ∧
    (hourDue.st.pf.silenced = false) ∧
    (hourDue.st.tb.valid = true) ∧
    (¬(Programme.silentAt hourDue.st.pg
        { civilHour := 10, civilDay := 9000, towerDay := 9000, towerMinute := 600 : HourEvent }.civilDay
        ({ civilHour := 10, civilDay := 9000, towerDay := 9000, towerMinute := 600 : HourEvent }.civilHour * 60) =
      true ∨
    (∃ t, t ∈ hourDue.st.pf.lastHour ∧ RunTime.elapsed t hourDue.st.tb.run < 3000 * 32768) ∨
      Option.isSome (Station.record hourDue.st 0) = true ∨
        Performances.isRecent hourDue.st.pf
            { cls := PerfClass.hour, number := 0, quarter := 0,
              day := { civilHour := 10, civilDay := 9000, towerDay := 9000, towerMinute := 600 : HourEvent }.towerDay,
              minute :=
                { civilHour := 10, civilDay := 9000, towerDay := 9000, towerMinute := 600 : HourEvent }.towerMinute :
              Key } =
          true)) ∧
    (Performances.chimeRecent hourDue.st.pf
    { civilHour := 10, civilDay := 9000, towerDay := 9000, towerMinute := 600 : HourEvent }.towerDay
    { civilHour := 10, civilDay := 9000, towerDay := 9000, towerMinute := 600 : HourEvent }.towerMinute =
  false) := by decide

/-- The hypotheses of `Obligations.CivilBoundariesAreTaken`, clause 2.2.2.2.2.2.1. -/
theorem witness_hour_none :
    (State.settled hourNoneCase) ∧
    (hourNoneCase.st.tb.hourDue =
  some { civilHour := 10, civilDay := 9000, towerDay := 9000, towerMinute := 600 : HourEvent }) ∧
    (hourNoneCase.st.pf.silenced = true ∨
  hourNoneCase.st.tb.valid = false ∨
    ∀ (bell : Nat), bell ∈ hourNoneCase.st.cfg.hourBell → StationBlock.isOwn hourNoneCase.st.cfg bell = false) := by decide

/-- The hypotheses of `Obligations.DuskFollowsTheTable`, clause 1.2.2.2.2.2. -/
theorem witness_dusk :
    (365 ≤ 365) ∧
    (Programme.duskPresent duskCase = true) ∧
    (dayOfYear 365 = 365) := by decide

/-- The hypotheses of `Obligations.DuskFollowsTheTable`, clause 2.1.2. -/
theorem witness_last_light :
    (Programme.lastLight (lightCalendar 600) 9000 0 600 = some (600, 2)) := by decide

/-- The hypotheses of `Obligations.DuskFollowsTheTable`, clause 2.2.1. -/
theorem witness_scene_today :
    (Programme.lastLight (lightCalendar 600) { day := 9000, us := 36000000000 : TowerTime }.day 0
    ({ day := 9000, us := 36000000000 : TowerTime }.us / 60000000) =
  some (600, 2)) := by decide

/-- The hypotheses of `Obligations.DuskFollowsTheTable`, clause 2.2.2.1. -/
theorem witness_scene_yesterday :
    (Programme.lastLight (lightCalendar 1439) { day := 0, us := 36000000000 : TowerTime }.day 0
    ({ day := 0, us := 36000000000 : TowerTime }.us / 60000000) =
  none) ∧
    (Programme.lastLight (lightCalendar 1439) (dayBefore { day := 0, us := 36000000000 : TowerTime }.day) 0 1439 =
  some (1439, 2)) := by decide

/-- The hypotheses of `Obligations.DuskFollowsTheTable`, clause 2.2.2.2. -/
theorem witness_scene_none :
    (Programme.lastLight Programme.cold { day := 0, us := 36000000000 : TowerTime }.day 0
    ({ day := 0, us := 36000000000 : TowerTime }.us / 60000000) =
  none) ∧
    (Programme.lastLight Programme.cold (dayBefore { day := 0, us := 36000000000 : TowerTime }.day) 0 1439 = none) := by decide

/-- The hypotheses of `Obligations.StartBitBeginsAFrame`, clause 1.1. -/
theorem witness_drives_its_offer :
    (State.settled guardedMark) ∧
    (Station.running guardedMark.st = true) ∧
    (Bus.mayQueue guardedMark.st.bus = true) ∧
    (guardedMark.st.bus.current = none) ∧
    (Bus.offer guardedMark.st.bus guardedMark.st.cfg.number =
  some { frame := Frame.mark none, age := 7, errors := 2, unheard := 0 : QueueSlot }) ∧
    (((match guardedMark.st.bus.wait with
    | LineWait.joining => 12
    | LineWait.afterFrame => 3
    | LineWait.gaveUp => 10) +
    if guardedMark.st.bus.guardedWait = true ∧ guardedMark.st.bus.state = BusState.guarded then 8 else 0) ≤
  20) := by decide

/-- The hypotheses of `Obligations.StartBitBeginsAFrame`, clause 1.2. -/
theorem witness_reads_a_start_bit :
    (State.settled (on base)) ∧
    (Station.inService (on base).st = true) ∧
    ((on base).st.bus.current = none) ∧
    ((match (on base).st.bus.wait with
  | LineWait.joining => 12
  | LineWait.afterFrame => 0
  | LineWait.gaveUp => 10) ≤
  12) := by decide

/-- The hypotheses of `Obligations.StartBitBeginsAFrame`, clause 1.2. -/
theorem witness_reads_a_start_bit0 :
    (State.settled readsAStartBit0Case) ∧
    (Station.inService readsAStartBit0Case.st = true) ∧
    (readsAStartBit0Case.st.bus.current = none) ∧
    ((match readsAStartBit0Case.st.bus.wait with
  | LineWait.joining => 12
  | LineWait.afterFrame => 0
  | LineWait.gaveUp => 10) ≤
  0) := by decide

/-- The hypotheses of `Obligations.StartBitBeginsAFrame`, clause 2.1. -/
theorem witness_offers_nothing :
    (base.bus.queue = []) := by decide

/-- The hypotheses of `Obligations.StartBitBeginsAFrame`, clause 2.2.2.2. -/
theorem witness_offers_the_lowest :
    (twoFrames.bus.queue ≠ []) ∧
    ({ frame := Frame.halt HaltScope.resume, age := 4, errors := 0, unheard := 0 : QueueSlot } ∈ twoFrames.bus.queue) := by decide

/-- The hypotheses of `Obligations.FailedAttemptsAreCounted`, clause 1.1. -/
theorem witness_arbitration_lost :
    (State.settled (attempt 0 0 0 0 BusState.active (Frame.free 1))) ∧
    ((attempt 0 0 0 0 BusState.active (Frame.free 1)).st.bus.current =
  some { capture := start, role := Role.sending 4 : FrameInProgress }) ∧
    ((attempt 0 0 0 0 BusState.active (Frame.free 1)).st.bus.heldMark = false) := by decide

/-- The hypotheses of `Obligations.FailedAttemptsAreCounted`, clause 2.1.1. -/
theorem witness_attempt_error :
    (State.settled (attempt 88 0 6 0 BusState.active (Frame.free 1))) ∧
    (Station.running (attempt 88 0 6 0 BusState.active (Frame.free 1)).st = true) ∧
    (Bus.mayQueue (attempt 88 0 6 0 BusState.active (Frame.free 1)).st.bus = true) ∧
    (Bus.agrees (attempt 88 0 6 0 BusState.active (Frame.free 1)).st.bus) ∧
    ((attempt 88 0 6 0 BusState.active (Frame.free 1)).st.bus.current =
  some
    { capture := start,
      role := Role.sending { frame := Frame.free 1, age := 4, errors := 6, unheard := 0 : QueueSlot }.age :
      FrameInProgress }) ∧
    (Bus.slotAt (attempt 88 0 6 0 BusState.active (Frame.free 1)).st.bus
    { frame := Frame.free 1, age := 4, errors := 6, unheard := 0 : QueueSlot }.age =
  some { frame := Frame.free 1, age := 4, errors := 6, unheard := 0 : QueueSlot }) ∧
    ((attempt 88 0 6 0 BusState.active (Frame.free 1)).st.bus.send + 8 ≤ 255) ∧
    ({ frame := Frame.free 1, age := 4, errors := 6, unheard := 0 : QueueSlot }.errors + 1 < 8) ∧
    ((attempt 88 0 6 0 BusState.active (Frame.free 1)).st.bus.heldMark = false) := by decide

/-- The hypotheses of `Obligations.FailedAttemptsAreCounted`, clause 2.1.1. -/
theorem witness_attempt_error2 :
    (State.settled (attempt 247 0 0 0 BusState.guarded (Frame.free 1))) ∧
    (Station.running (attempt 247 0 0 0 BusState.guarded (Frame.free 1)).st = true) ∧
    (Bus.mayQueue (attempt 247 0 0 0 BusState.guarded (Frame.free 1)).st.bus = true) ∧
    (Bus.agrees (attempt 247 0 0 0 BusState.guarded (Frame.free 1)).st.bus) ∧
    ((attempt 247 0 0 0 BusState.guarded (Frame.free 1)).st.bus.current =
  some
    { capture := start,
      role := Role.sending { frame := Frame.free 1, age := 4, errors := 0, unheard := 0 : QueueSlot }.age :
      FrameInProgress }) ∧
    (Bus.slotAt (attempt 247 0 0 0 BusState.guarded (Frame.free 1)).st.bus
    { frame := Frame.free 1, age := 4, errors := 0, unheard := 0 : QueueSlot }.age =
  some { frame := Frame.free 1, age := 4, errors := 0, unheard := 0 : QueueSlot }) ∧
    ((attempt 247 0 0 0 BusState.guarded (Frame.free 1)).st.bus.send + 8 ≤ 255) ∧
    ({ frame := Frame.free 1, age := 4, errors := 0, unheard := 0 : QueueSlot }.errors + 1 < 8) ∧
    ((attempt 247 0 0 0 BusState.guarded (Frame.free 1)).st.bus.heldMark = false) := by decide

/-- The hypotheses of `Obligations.FailedAttemptsAreCounted`, clause 2.1.2.2.2.1. -/
theorem witness_attempt_dropped :
    (State.settled (attempt 88 0 7 0 BusState.active (Frame.mark (some topMark)))) ∧
    (Station.running (attempt 88 0 7 0 BusState.active (Frame.mark (some topMark))).st = true) ∧
    (Bus.mayQueue (attempt 88 0 7 0 BusState.active (Frame.mark (some topMark))).st.bus = true) ∧
    (Bus.agrees (attempt 88 0 7 0 BusState.active (Frame.mark (some topMark))).st.bus) ∧
    ((attempt 88 0 7 0 BusState.active (Frame.mark (some topMark))).st.bus.current =
  some
    { capture := start,
      role := Role.sending { frame := Frame.mark (some topMark), age := 4, errors := 7, unheard := 0 : QueueSlot }.age :
      FrameInProgress }) ∧
    (Bus.slotAt (attempt 88 0 7 0 BusState.active (Frame.mark (some topMark))).st.bus
    { frame := Frame.mark (some topMark), age := 4, errors := 7, unheard := 0 : QueueSlot }.age =
  some { frame := Frame.mark (some topMark), age := 4, errors := 7, unheard := 0 : QueueSlot }) ∧
    ((attempt 88 0 7 0 BusState.active (Frame.mark (some topMark))).st.bus.send + 8 ≤ 255) ∧
    (8 ≤ { frame := Frame.mark (some topMark), age := 4, errors := 7, unheard := 0 : QueueSlot }.errors + 1) ∧
    ((attempt 88 0 7 0 BusState.active (Frame.mark (some topMark))).st.bus.heldMark = false) ∧
    (Frame.isMark { frame := Frame.mark (some topMark), age := 4, errors := 7, unheard := 0 : QueueSlot }.frame = true ∨
  Frame.isReportless { frame := Frame.mark (some topMark), age := 4, errors := 7, unheard := 0 : QueueSlot }.frame =
    true) := by decide

/-- The hypotheses of `Obligations.FailedAttemptsAreCounted`, clause 2.2. -/
theorem witness_mute_entry :
    (State.settled (attempt 248 0 0 0 BusState.guarded (Frame.free 1))) ∧
    (Station.running (attempt 248 0 0 0 BusState.guarded (Frame.free 1)).st = true) ∧
    ((attempt 248 0 0 0 BusState.guarded (Frame.free 1)).st.bus.state = BusState.guarded) ∧
    ((attempt 248 0 0 0 BusState.guarded (Frame.free 1)).st.bus.current =
  some
    { capture := start,
      role := Role.sending { frame := Frame.free 1, age := 4, errors := 0, unheard := 0 : QueueSlot }.age :
      FrameInProgress }) ∧
    ((attempt 248 0 0 0 BusState.guarded (Frame.free 1)).st.bus.queue =
  [{ frame := Frame.free 1, age := 4, errors := 0, unheard := 0 : QueueSlot }]) ∧
    ({ frame := Frame.free 1, age := 4, errors := 0, unheard := 0 : QueueSlot }.frame = Frame.free 1) ∧
    ({ frame := Frame.free 1, age := 4, errors := 0, unheard := 0 : QueueSlot }.errors + 1 < 8) ∧
    ((attempt 248 0 0 0 BusState.guarded (Frame.free 1)).st.bus.heldMark = false) ∧
    (255 < (attempt 248 0 0 0 BusState.guarded (Frame.free 1)).st.bus.send + 8) := by decide

/-- The hypotheses of `Obligations.CompletedAttemptsAreReported`, clause 1.2.1. -/
theorem witness_attempt_heard :
    (State.settled (attempt 96 0 0 0 BusState.guarded (Frame.mark (some topMark)))) ∧
    (Station.running (attempt 96 0 0 0 BusState.guarded (Frame.mark (some topMark))).st = true) ∧
    (Bus.mayQueue (attempt 96 0 0 0 BusState.guarded (Frame.mark (some topMark))).st.bus = true) ∧
    (Bus.agrees (attempt 96 0 0 0 BusState.guarded (Frame.mark (some topMark))).st.bus) ∧
    ((attempt 96 0 0 0 BusState.guarded (Frame.mark (some topMark))).st.bus.current =
  some
    { capture := start,
      role := Role.sending { frame := Frame.mark (some topMark), age := 4, errors := 0, unheard := 0 : QueueSlot }.age :
      FrameInProgress }) ∧
    (Bus.slotAt (attempt 96 0 0 0 BusState.guarded (Frame.mark (some topMark))).st.bus
    { frame := Frame.mark (some topMark), age := 4, errors := 0, unheard := 0 : QueueSlot }.age =
  some { frame := Frame.mark (some topMark), age := 4, errors := 0, unheard := 0 : QueueSlot }) ∧
    ((attempt 96 0 0 0 BusState.guarded (Frame.mark (some topMark))).st.bus.heldMark = false) ∧
    (Frame.isMark { frame := Frame.mark (some topMark), age := 4, errors := 0, unheard := 0 : QueueSlot }.frame = true) := by decide

/-- The hypotheses of `Obligations.CompletedAttemptsAreReported`, clause 1.1. -/
theorem witness_attempt_heard2 :
    (State.settled (attempt 0 127 0 0 BusState.guarded (Frame.halt HaltScope.silence))) ∧
    (Station.running (attempt 0 127 0 0 BusState.guarded (Frame.halt HaltScope.silence)).st = true) ∧
    (Bus.mayQueue (attempt 0 127 0 0 BusState.guarded (Frame.halt HaltScope.silence)).st.bus = true) ∧
    (Bus.agrees (attempt 0 127 0 0 BusState.guarded (Frame.halt HaltScope.silence)).st.bus) ∧
    ((attempt 0 127 0 0 BusState.guarded (Frame.halt HaltScope.silence)).st.bus.current =
  some
    { capture := start,
      role :=
        Role.sending { frame := Frame.halt HaltScope.silence, age := 4, errors := 0, unheard := 0 : QueueSlot }.age :
      FrameInProgress }) ∧
    (Bus.slotAt (attempt 0 127 0 0 BusState.guarded (Frame.halt HaltScope.silence)).st.bus
    { frame := Frame.halt HaltScope.silence, age := 4, errors := 0, unheard := 0 : QueueSlot }.age =
  some { frame := Frame.halt HaltScope.silence, age := 4, errors := 0, unheard := 0 : QueueSlot }) ∧
    ((attempt 0 127 0 0 BusState.guarded (Frame.halt HaltScope.silence)).st.bus.heldMark = false) ∧
    (Frame.isReportless { frame := Frame.halt HaltScope.silence, age := 4, errors := 0, unheard := 0 : QueueSlot }.frame =
  true) := by decide

/-- The hypotheses of `Obligations.CompletedAttemptsAreReported`, clause 2.1.1. -/
theorem witness_unheard_again :
    (State.settled (attempt 0 0 0 1 BusState.active (Frame.free 1))) ∧
    ((attempt 0 0 0 1 BusState.active (Frame.free 1)).st.bus.current =
  some
    { capture := start,
      role := Role.sending { frame := Frame.free 1, age := 4, errors := 0, unheard := 1 : QueueSlot }.age :
      FrameInProgress }) ∧
    (Bus.slotAt (attempt 0 0 0 1 BusState.active (Frame.free 1)).st.bus
    { frame := Frame.free 1, age := 4, errors := 0, unheard := 1 : QueueSlot }.age =
  some { frame := Frame.free 1, age := 4, errors := 0, unheard := 1 : QueueSlot }) ∧
    ((attempt 0 0 0 1 BusState.active (Frame.free 1)).st.bus.heldMark = false) ∧
    (Frame.oneHearing { frame := Frame.free 1, age := 4, errors := 0, unheard := 1 : QueueSlot }.frame = false) ∧
    ({ frame := Frame.free 1, age := 4, errors := 0, unheard := 1 : QueueSlot }.unheard + 1 < 3) := by decide

/-- The hypotheses of `Obligations.CompletedAttemptsAreReported`, clause 2.1.2.1. -/
theorem witness_unheard_third :
    (State.settled (attempt 0 0 0 2 BusState.active (Frame.halt HaltScope.resume))) ∧
    ((attempt 0 0 0 2 BusState.active (Frame.halt HaltScope.resume)).st.bus.current =
  some
    { capture := start,
      role :=
        Role.sending { frame := Frame.halt HaltScope.resume, age := 4, errors := 0, unheard := 2 : QueueSlot }.age :
      FrameInProgress }) ∧
    (Bus.slotAt (attempt 0 0 0 2 BusState.active (Frame.halt HaltScope.resume)).st.bus
    { frame := Frame.halt HaltScope.resume, age := 4, errors := 0, unheard := 2 : QueueSlot }.age =
  some { frame := Frame.halt HaltScope.resume, age := 4, errors := 0, unheard := 2 : QueueSlot }) ∧
    ((attempt 0 0 0 2 BusState.active (Frame.halt HaltScope.resume)).st.bus.heldMark = false) ∧
    (Frame.isPlain { frame := Frame.halt HaltScope.resume, age := 4, errors := 0, unheard := 2 : QueueSlot }.frame = true) ∧
    (3 ≤ { frame := Frame.halt HaltScope.resume, age := 4, errors := 0, unheard := 2 : QueueSlot }.unheard + 1) := by decide

/-- The hypotheses of `Obligations.CompletedAttemptsAreReported`, clause 2.1.2.2.1. -/
theorem witness_unheard_mark :
    (State.settled (attempt 0 0 0 0 BusState.active (Frame.mark (some topMark)))) ∧
    ((attempt 0 0 0 0 BusState.active (Frame.mark (some topMark))).st.bus.current =
  some
    { capture := start,
      role := Role.sending { frame := Frame.mark (some topMark), age := 4, errors := 0, unheard := 0 : QueueSlot }.age :
      FrameInProgress }) ∧
    (Bus.slotAt (attempt 0 0 0 0 BusState.active (Frame.mark (some topMark))).st.bus
    { frame := Frame.mark (some topMark), age := 4, errors := 0, unheard := 0 : QueueSlot }.age =
  some { frame := Frame.mark (some topMark), age := 4, errors := 0, unheard := 0 : QueueSlot }) ∧
    ((attempt 0 0 0 0 BusState.active (Frame.mark (some topMark))).st.bus.heldMark = false) ∧
    (Frame.isMark { frame := Frame.mark (some topMark), age := 4, errors := 0, unheard := 0 : QueueSlot }.frame = true) := by decide

/-- The hypotheses of `Obligations.ReceptionsEnd`, clause 1.1. -/
theorem witness_receive_error :
    (State.settled (receiving 0 95 BusState.active)) ∧
    (Station.running (receiving 0 95 BusState.active).st = true) ∧
    (Bus.mayQueue (receiving 0 95 BusState.active).st.bus = true) ∧
    (Bus.agrees (receiving 0 95 BusState.active).st.bus) ∧
    ((receiving 0 95 BusState.active).st.bus.current = some { capture := start, role := Role.receiving : FrameInProgress }) ∧
    (Receiver.scan Receiver.start badSync = RxResult.done Verdict.form ∨
  Receiver.scan Receiver.start badSync = RxResult.done Verdict.check) := by decide

/-- The hypotheses of `Obligations.ReceptionsEnd`, clause 1.1. -/
theorem witness_receive_error2 :
    (State.settled (receiving 0 127 BusState.guarded)) ∧
    (Station.running (receiving 0 127 BusState.guarded).st = true) ∧
    (Bus.mayQueue (receiving 0 127 BusState.guarded).st.bus = true) ∧
    (Bus.agrees (receiving 0 127 BusState.guarded).st.bus) ∧
    ((receiving 0 127 BusState.guarded).st.bus.current = some { capture := start, role := Role.receiving : FrameInProgress }) ∧
    (Receiver.scan Receiver.start badSync = RxResult.done Verdict.form ∨
  Receiver.scan Receiver.start badSync = RxResult.done Verdict.check) := by decide

/-- The hypotheses of `Obligations.ReceptionsEnd`, clause 1.2.1. -/
theorem witness_break_received :
    (State.settled (receiving 0 0 BusState.active)) ∧
    ((receiving 0 0 BusState.active).st.bus.current = some { capture := start, role := Role.receiving : FrameInProgress }) := by decide

/-- The hypotheses of `Obligations.ReceptionsEnd`, clause 1.2.2.1. -/
theorem witness_break_idle :
    (State.settled (on base)) ∧
    (Station.inService (on base).st = true) ∧
    ((on base).st.bus.current = none) := by decide

/-- The hypotheses of `Obligations.ReceptionsEnd`, clause 1.2.2.2. -/
theorem witness_heard_passed :
    (1023 < 1024) ∧
    (List.length (List.replicate 12 255) ≤ 12) ∧
    (140 ≤ List.length (frameBits 1023 (List.replicate 12 255))) := by decide

/-- The hypotheses of `Obligations.ReceptionsEnd`, clause 2.1. -/
theorem witness_answer_received :
    (State.settled (receiving 0 96 BusState.guarded)) ∧
    (Station.Hears (receiving 0 96 BusState.guarded).st 14 start) := by decide

/-- The hypotheses of `Obligations.ReceptionsEnd`, clause 2.1. -/
theorem witness_answer_received2 :
    (State.settled (receiving 256 96 BusState.mute)) ∧
    (Station.Hears (receiving 256 96 BusState.mute).st 14 start) := by decide

/-- The hypotheses of `Obligations.ReceptionsEnd`, clause 2.2.1. -/
theorem witness_duplicate :
    (State.settled duplicateCase) ∧
    (Station.running duplicateCase.st = false) ∧
    (duplicateCase.st.bus.current = some { capture := start, role := Role.receiving : FrameInProgress }) ∧
    (duplicateCase.st.bus.state ≠ BusState.duplicate) ∧
    (duplicateCase.st.bus.queue = []) := by decide

/-- The hypotheses of `Obligations.ReceptionsEnd`, clause 2.2.2. -/
theorem witness_duplicate_running :
    (State.settled (receiving 0 96 BusState.guarded)) ∧
    (Station.running (receiving 0 96 BusState.guarded).st = true) ∧
    (Bus.mayQueue (receiving 0 96 BusState.guarded).st.bus = true) ∧
    (Bus.agrees (receiving 0 96 BusState.guarded).st.bus) ∧
    ((receiving 0 96 BusState.guarded).st.bus.current = some { capture := start, role := Role.receiving : FrameInProgress }) ∧
    ((receiving 0 96 BusState.guarded).st.bus.queue = []) := by decide

/-- The hypotheses of `Obligations.HaltsOfUnknownKeysAreKept`, clause 1.1. -/
theorem witness_halt_kept :
    (State.settled (on (hearing base))) ∧
    (Station.running (on (hearing base)).st = true) ∧
    (Station.Hears (on (hearing base)).st 7 start) ∧
    (List.length (Key.bytes tuneKey 0) = 6) ∧
    (byteAt (Key.bytes tuneKey 0) 0 % 4 = 0) ∧
    (Key.quarterValid (keyAt (Key.bytes tuneKey 0) 0) = true) ∧
    (Performances.slotOf (on (hearing base)).st.pf (keyAt (Key.bytes tuneKey 0) 0) = none) ∧
    (Performances.isRecent (on (hearing base)).st.pf (keyAt (Key.bytes tuneKey 0) 0) = false) ∧
    (Station.record (on (hearing base)).st 0 = none) := by decide

/-- The hypotheses of `Obligations.HaltsOfUnknownKeysAreKept`, clause 1.2.1. -/
theorem witness_halt_last_chime :
    (State.settled (on (hearing (withRecord 0 hourWaits)))) ∧
    (Station.running (on (hearing (withRecord 0 hourWaits))).st = true) ∧
    (Station.Hears (on (hearing (withRecord 0 hourWaits))).st 7 start) ∧
    (List.length (Key.bytes chimeKey 0) = 6) ∧
    (byteAt (Key.bytes chimeKey 0) 0 % 4 = 0) ∧
    (Key.quarterValid (keyAt (Key.bytes chimeKey 0) 0) = true) ∧
    (Performances.slotOf (on (hearing (withRecord 0 hourWaits))).st.pf (keyAt (Key.bytes chimeKey 0) 0) = none) ∧
    (Performances.isRecent (on (hearing (withRecord 0 hourWaits))).st.pf (keyAt (Key.bytes chimeKey 0) 0) = false) ∧
    (TimeBase.inRange (on (hearing (withRecord 0 hourWaits))).st.tb) ∧
    (∀ (k : ChannelConfig), k ∈ (on (hearing (withRecord 0 hourWaits))).st.cfg.channels → k.lead ≤ 400) ∧
    (Station.record (on (hearing (withRecord 0 hourWaits))).st 0 = some hourWaits) ∧
    (hourWaits.key.cls = PerfClass.hour) ∧
    (hourWaits.state = PerfState.waiting) ∧
    ((keyAt (Key.bytes chimeKey 0) 0).cls = PerfClass.quarter) ∧
    ((keyAt (Key.bytes chimeKey 0) 0).quarter = 4) ∧
    ((keyAt (Key.bytes chimeKey 0) 0).day = hourWaits.key.day) ∧
    ((keyAt (Key.bytes chimeKey 0) 0).minute = hourWaits.key.minute) ∧
    (Performances.chimeStands (on (hearing (withRecord 0 hourWaits))).st.pf hourWaits.key.day hourWaits.key.minute = false) := by decide

/-- The hypotheses of `Obligations.HaltsOfUnknownKeysAreKept`, clause 1.2.2.1. -/
theorem witness_halt_known :
    (State.settled (knowsKey tuneKey)) ∧
    (Station.running (knowsKey tuneKey).st = true) ∧
    (Station.Hears (knowsKey tuneKey).st 7 start) ∧
    (List.length (Key.bytes tuneKey 0) = 6) ∧
    (byteAt (Key.bytes tuneKey 0) 0 % 4 = 0) ∧
    (Key.quarterValid (keyAt (Key.bytes tuneKey 0) 0) = true) ∧
    (Performances.slotOf (knowsKey tuneKey).st.pf (keyAt (Key.bytes tuneKey 0) 0) = none) ∧
    (Performances.isRecent (knowsKey tuneKey).st.pf (keyAt (Key.bytes tuneKey 0) 0) = true) := by decide

/-- The hypotheses of `Obligations.HaltsOfUnknownKeysAreKept`, clause 1.2.2.2.1. -/
theorem witness_halt_discarded :
    (State.settled (on (hearing base))) ∧
    (Station.running (on (hearing base)).st = true) ∧
    (Station.Hears (on (hearing base)).st 7 start) ∧
    (List.length quarterKeyBytes = 6) ∧
    (byteAt quarterKeyBytes 0 % 4 = 0) ∧
    (Key.quarterValid (keyAt quarterKeyBytes 0) = false) := by decide

/-- The hypotheses of `Obligations.HaltsOfUnknownKeysAreKept`, clause 1.2.2.2.2.1. -/
theorem witness_halt_aborts :
    (State.settled haltAbortsCase) ∧
    (Station.running haltAbortsCase.st = true) ∧
    (Station.Hears haltAbortsCase.st 7 start) ∧
    (List.length (Key.bytes { cls := PerfClass.hour, number := 0, quarter := 0, day := 9000, minute := 600 : Key } 0) = 6) ∧
    (byteAt (Key.bytes { cls := PerfClass.hour, number := 0, quarter := 0, day := 9000, minute := 600 : Key } 0) 0 % 4 = 0) ∧
    (Key.quarterValid
    (keyAt (Key.bytes { cls := PerfClass.hour, number := 0, quarter := 0, day := 9000, minute := 600 : Key } 0) 0) =
  true) ∧
    (Performances.slotOf haltAbortsCase.st.pf
    (keyAt (Key.bytes { cls := PerfClass.hour, number := 0, quarter := 0, day := 9000, minute := 600 : Key } 0) 0) =
  some 0) ∧
    (Station.record haltAbortsCase.st 0 = some hourWaits) ∧
    (0 = 0 ∨ Station.record haltAbortsCase.st 0 = none) ∧
    (hourWaits.frameState ≠ FrameState.queued) ∧
    (∀ (m : BellMark), m ∈ hourWaits.marks → BellMark.holds m = false) := by decide

/-- The hypotheses of `Obligations.HaltsOfUnknownKeysAreKept`, clause 1.2.2.2.2.2.1. -/
theorem witness_halt_withdraws :
    (State.settled cueQueued) ∧
    (Station.running cueQueued.st = true) ∧
    (Station.Hears cueQueued.st 7 start) ∧
    (List.length (Key.bytes tuneKey 0) = 6) ∧
    (byteAt (Key.bytes tuneKey 0) 0 % 4 = 0) ∧
    (Key.quarterValid (keyAt (Key.bytes tuneKey 0) 0) = true) ∧
    (Performances.slotOf cueQueued.st.pf (keyAt (Key.bytes tuneKey 0) 0) = some 1) ∧
    (Station.record cueQueued.st 1 = some cueWaits) ∧
    (1 = 0 ∨ Station.record cueQueued.st 0 = none) ∧
    (cueWaits.frameState = FrameState.queued) ∧
    (∀ (m : BellMark), m ∈ cueWaits.marks → BellMark.holds m = false) ∧
    (cueQueued.st.bus.queue = [cueSlot]) ∧
    (Frame.isCueOf (keyAt (Key.bytes tuneKey 0) 0) cueSlot.frame = true) := by decide

/-- The hypotheses of `Obligations.HaltsOfUnknownKeysAreKept`, clause 1.2.2.2.2.2.2. -/
theorem witness_halt_releases :
    (State.settled (on (hearing (recordAnd (holding (record tuneKey PerfState.playing 0 true)) heldBell)))) ∧
    (Station.running (on (hearing (recordAnd (holding (record tuneKey PerfState.playing 0 true)) heldBell))).st = true) ∧
    (Station.Hears (on (hearing (recordAnd (holding (record tuneKey PerfState.playing 0 true)) heldBell))).st 7 start) ∧
    (List.length (Key.bytes tuneKey 0) = 6) ∧
    (byteAt (Key.bytes tuneKey 0) 0 % 4 = 0) ∧
    (Key.quarterValid (keyAt (Key.bytes tuneKey 0) 0) = true) ∧
    (Performances.slotOf (on (hearing (recordAnd (holding (record tuneKey PerfState.playing 0 true)) heldBell))).st.pf
    (keyAt (Key.bytes tuneKey 0) 0) =
  some 1) ∧
    (Station.record (on (hearing (recordAnd (holding (record tuneKey PerfState.playing 0 true)) heldBell))).st 1 =
  some (holding (record tuneKey PerfState.playing 0 true))) ∧
    (1 = 0 ∨
  Station.record (on (hearing (recordAnd (holding (record tuneKey PerfState.playing 0 true)) heldBell))).st 0 = none) ∧
    ((holding (record tuneKey PerfState.playing 0 true)).frameState ≠ FrameState.queued) ∧
    (0 < 8) ∧
    ((holding (record tuneKey PerfState.playing 0 true)).marks = List.set (List.replicate 8 BellMark.none) 0 BellMark.held) ∧
    ((on (hearing (recordAnd (holding (record tuneKey PerfState.playing 0 true)) heldBell))).st.channels[0]? = some heldBell) ∧
    (heldBell.holder = Holder.perf 1 3) ∧
    (heldBell.waiting = none) := by decide

/-- The hypotheses of `Obligations.HaltsOfUnknownKeysAreKept`, clause 2.1. -/
theorem witness_halt_key_range :
    (State.Asked (on (hearing base)) ask start) ∧
    (6 ≤ List.length badKeyBytes) ∧
    (Key.valid (keyAt badKeyBytes 0) = false) := by decide

/-- The hypotheses of `Obligations.HaltsOfUnknownKeysAreKept`, clause 2.2. -/
theorem witness_halt_key :
    (State.Asked (on (hearing base)) ask start) ∧
    (6 ≤ List.length (Key.bytes tuneKey 0)) ∧
    (Key.valid (keyAt (Key.bytes tuneKey 0) 0) = true) ∧
    (Performances.slotOf (on (hearing base)).st.pf (keyAt (Key.bytes tuneKey 0) 0) = none) ∧
    (Performances.isRecent (on (hearing base)).st.pf (keyAt (Key.bytes tuneKey 0) 0) = false) ∧
    (Station.record (on (hearing base)).st 0 = none) ∧
    (List.length (on (hearing base)).st.pf.recent < 8) := by decide

/-- The hypotheses of `Obligations.PerformancesPlay`, clause 1.1. -/
theorem witness_play_silent :
    (State.settled (on (withRecord 1 (record tuneKey PerfState.cued 1500000 false)))) ∧
    (Station.running (on (withRecord 1 (record tuneKey PerfState.cued 1500000 false))).st = true) ∧
    (1 < List.length (on (withRecord 1 (record tuneKey PerfState.cued 1500000 false))).st.pf.table) ∧
    (Station.record (on (withRecord 1 (record tuneKey PerfState.cued 1500000 false))).st 1 =
  some (record tuneKey PerfState.cued 1500000 false)) ∧
    ((record tuneKey PerfState.cued 1500000 false).state = PerfState.cued) ∧
    (0 ≤
  TowerTime.diff (TimeBase.now (on (withRecord 1 (record tuneKey PerfState.cued 1500000 false))).st.tb)
    (TowerTime.plus (record tuneKey PerfState.cued 1500000 false).start (-1500000))) ∧
    ((record tuneKey PerfState.cued 1500000 false).hasPart = false) := by decide

/-- The hypotheses of `Obligations.PerformancesPlay`, clause 1.2. -/
theorem witness_play_part :
    (State.settled (on (oneTune 3 (withRecord 1 (record tuneKey PerfState.cued 1500000 true))))) ∧
    (Station.running (on (oneTune 3 (withRecord 1 (record tuneKey PerfState.cued 1500000 true)))).st = true) ∧
    (1 < List.length (on (oneTune 3 (withRecord 1 (record tuneKey PerfState.cued 1500000 true)))).st.pf.table) ∧
    (Station.record (on (oneTune 3 (withRecord 1 (record tuneKey PerfState.cued 1500000 true)))).st 1 =
  some (record tuneKey PerfState.cued 1500000 true)) ∧
    ((record tuneKey PerfState.cued 1500000 true).state = PerfState.cued) ∧
    (0 ≤
  TowerTime.diff (TimeBase.now (on (oneTune 3 (withRecord 1 (record tuneKey PerfState.cued 1500000 true)))).st.tb)
    (TowerTime.plus (record tuneKey PerfState.cued 1500000 true).start (-1500000))) ∧
    ((record tuneKey PerfState.cued 1500000 true).hasPart = true) ∧
    ((record tuneKey PerfState.cued 1500000 true).key.cls = PerfClass.tune ∨
  (record tuneKey PerfState.cued 1500000 true).key.cls = PerfClass.quarter) ∧
    (Programme.noteOf (on (oneTune 3 (withRecord 1 (record tuneKey PerfState.cued 1500000 true)))).st.pg
    (record tuneKey PerfState.cued 1500000 true).key.number (record tuneKey PerfState.cued 1500000 true).cursor =
  some { offset := 3, bell := 1, velocity := 4, phrase := Phrase.none : Note }) ∧
    (StationBlock.channelOf (on (oneTune 3 (withRecord 1 (record tuneKey PerfState.cued 1500000 true)))).st.cfg
    { offset := 3, bell := 1, velocity := 4, phrase := Phrase.none : Note }.bell =
  some 0) ∧
    (1500000 <
  TowerTime.diff
    (TowerTime.plus
      (TowerTime.plus (record tuneKey PerfState.cued 1500000 true).start
        (↑(noteDelay { offset := 3, bell := 1, velocity := 4, phrase := Phrase.none : Note }.offset
              (record tuneKey PerfState.cued 1500000 true).beat) :
          Int))
      (-(↑((Station.channelCfg (on (oneTune 3 (withRecord 1 (record tuneKey PerfState.cued 1500000 true)))).st 0).lead *
              1000) :
          Int)))
    (TimeBase.now (on (oneTune 3 (withRecord 1 (record tuneKey PerfState.cued 1500000 true)))).st.tb)) := by decide

/-- The hypotheses of `Obligations.PerformancesPlay`, clause 2.1. -/
theorem witness_note_feed :
    (State.settled (on (oneTune 0 (withRecord 1 (record tuneKey PerfState.playing 1600000 true))))) ∧
    (Station.running (on (oneTune 0 (withRecord 1 (record tuneKey PerfState.playing 1600000 true)))).st = true) ∧
    (1 < List.length (on (oneTune 0 (withRecord 1 (record tuneKey PerfState.playing 1600000 true)))).st.pf.table) ∧
    (Station.record (on (oneTune 0 (withRecord 1 (record tuneKey PerfState.playing 1600000 true)))).st 1 =
  some (record tuneKey PerfState.playing 1600000 true)) ∧
    ((record tuneKey PerfState.playing 1600000 true).state = PerfState.playing) ∧
    ((record tuneKey PerfState.playing 1600000 true).hasPart = true) ∧
    ((record tuneKey PerfState.playing 1600000 true).key.cls = PerfClass.tune ∨
  (record tuneKey PerfState.playing 1600000 true).key.cls = PerfClass.quarter) ∧
    (Programme.noteOf (on (oneTune 0 (withRecord 1 (record tuneKey PerfState.playing 1600000 true)))).st.pg
    (record tuneKey PerfState.playing 1600000 true).key.number (record tuneKey PerfState.playing 1600000 true).cursor =
  some { offset := 0, bell := 1, velocity := 4, phrase := Phrase.none : Note }) ∧
    (StationBlock.channelOf (on (oneTune 0 (withRecord 1 (record tuneKey PerfState.playing 1600000 true)))).st.cfg
    { offset := 0, bell := 1, velocity := 4, phrase := Phrase.none : Note }.bell =
  some 0) ∧
    ((on (oneTune 0 (withRecord 1 (record tuneKey PerfState.playing 1600000 true)))).st.channels[0]? = some bell) ∧
    (bell.state = ChannelState.ready) ∧
    (bell.holder = Holder.none) ∧
    (bell.queue = []) ∧
    (Record.mark (record tuneKey PerfState.playing 1600000 true) 0 = BellMark.none) ∧
    (0 ≤
  TowerTime.diff
    (TowerTime.plus
      (TowerTime.plus (record tuneKey PerfState.playing 1600000 true).start
        (↑(noteDelay { offset := 0, bell := 1, velocity := 4, phrase := Phrase.none : Note }.offset
              (record tuneKey PerfState.playing 1600000 true).beat) :
          Int))
      (-(↑((Station.channelCfg (on (oneTune 0 (withRecord 1 (record tuneKey PerfState.playing 1600000 true)))).st
                  0).lead *
              1000) :
          Int)))
    (TimeBase.now (on (oneTune 0 (withRecord 1 (record tuneKey PerfState.playing 1600000 true)))).st.tb)) ∧
    (TowerTime.diff
    (TowerTime.plus
      (TowerTime.plus (record tuneKey PerfState.playing 1600000 true).start
        (↑(noteDelay { offset := 0, bell := 1, velocity := 4, phrase := Phrase.none : Note }.offset
              (record tuneKey PerfState.playing 1600000 true).beat) :
          Int))
      (-(↑((Station.channelCfg (on (oneTune 0 (withRecord 1 (record tuneKey PerfState.playing 1600000 true)))).st
                  0).lead *
              1000) :
          Int)))
    (TimeBase.now (on (oneTune 0 (withRecord 1 (record tuneKey PerfState.playing 1600000 true)))).st.tb) ≤
  1500000) := by decide

/-- The hypotheses of `Obligations.PerformancesPlay`, clause 2.1. -/
theorem witness_note_feed2 :
    (State.settled (on (oneTune 0 (withRecord 1 (record tuneKey PerfState.playing 100000 true))))) ∧
    (Station.running (on (oneTune 0 (withRecord 1 (record tuneKey PerfState.playing 100000 true)))).st = true) ∧
    (1 < List.length (on (oneTune 0 (withRecord 1 (record tuneKey PerfState.playing 100000 true)))).st.pf.table) ∧
    (Station.record (on (oneTune 0 (withRecord 1 (record tuneKey PerfState.playing 100000 true)))).st 1 =
  some (record tuneKey PerfState.playing 100000 true)) ∧
    ((record tuneKey PerfState.playing 100000 true).state = PerfState.playing) ∧
    ((record tuneKey PerfState.playing 100000 true).hasPart = true) ∧
    ((record tuneKey PerfState.playing 100000 true).key.cls = PerfClass.tune ∨
  (record tuneKey PerfState.playing 100000 true).key.cls = PerfClass.quarter) ∧
    (Programme.noteOf (on (oneTune 0 (withRecord 1 (record tuneKey PerfState.playing 100000 true)))).st.pg
    (record tuneKey PerfState.playing 100000 true).key.number (record tuneKey PerfState.playing 100000 true).cursor =
  some { offset := 0, bell := 1, velocity := 4, phrase := Phrase.none : Note }) ∧
    (StationBlock.channelOf (on (oneTune 0 (withRecord 1 (record tuneKey PerfState.playing 100000 true)))).st.cfg
    { offset := 0, bell := 1, velocity := 4, phrase := Phrase.none : Note }.bell =
  some 0) ∧
    ((on (oneTune 0 (withRecord 1 (record tuneKey PerfState.playing 100000 true)))).st.channels[0]? = some bell) ∧
    (bell.state = ChannelState.ready) ∧
    (bell.holder = Holder.none) ∧
    (bell.queue = []) ∧
    (Record.mark (record tuneKey PerfState.playing 100000 true) 0 = BellMark.none) ∧
    (0 ≤
  TowerTime.diff
    (TowerTime.plus
      (TowerTime.plus (record tuneKey PerfState.playing 100000 true).start
        (↑(noteDelay { offset := 0, bell := 1, velocity := 4, phrase := Phrase.none : Note }.offset
              (record tuneKey PerfState.playing 100000 true).beat) :
          Int))
      (-(↑((Station.channelCfg (on (oneTune 0 (withRecord 1 (record tuneKey PerfState.playing 100000 true)))).st
                  0).lead *
              1000) :
          Int)))
    (TimeBase.now (on (oneTune 0 (withRecord 1 (record tuneKey PerfState.playing 100000 true)))).st.tb)) ∧
    (TowerTime.diff
    (TowerTime.plus
      (TowerTime.plus (record tuneKey PerfState.playing 100000 true).start
        (↑(noteDelay { offset := 0, bell := 1, velocity := 4, phrase := Phrase.none : Note }.offset
              (record tuneKey PerfState.playing 100000 true).beat) :
          Int))
      (-(↑((Station.channelCfg (on (oneTune 0 (withRecord 1 (record tuneKey PerfState.playing 100000 true)))).st
                  0).lead *
              1000) :
          Int)))
    (TimeBase.now (on (oneTune 0 (withRecord 1 (record tuneKey PerfState.playing 100000 true)))).st.tb) ≤
  1500000) := by decide

/-- The hypotheses of `Obligations.PerformancesPlay`, clause 2.2.1.1. -/
theorem witness_toll_feed :
    (State.settled (on (withRecord 1 (toll PerfState.playing 1600000 6)))) ∧
    (Station.running (on (withRecord 1 (toll PerfState.playing 1600000 6))).st = true) ∧
    (1 < List.length (on (withRecord 1 (toll PerfState.playing 1600000 6))).st.pf.table) ∧
    (Station.record (on (withRecord 1 (toll PerfState.playing 1600000 6))).st 1 = some (toll PerfState.playing 1600000 6)) ∧
    ((toll PerfState.playing 1600000 6).state = PerfState.playing) ∧
    ((toll PerfState.playing 1600000 6).hasPart = true) ∧
    ((toll PerfState.playing 1600000 6).key.cls = PerfClass.toll) ∧
    ((toll PerfState.playing 1600000 6).entriesOut = 0) ∧
    (StationBlock.channelOf (on (withRecord 1 (toll PerfState.playing 1600000 6))).st.cfg
    (toll PerfState.playing 1600000 6).key.number =
  some 0) ∧
    ((on (withRecord 1 (toll PerfState.playing 1600000 6))).st.channels[0]? = some bell) ∧
    (bell.state = ChannelState.ready) ∧
    (bell.holder = Holder.none) ∧
    (bell.queue = []) ∧
    (Record.mark (toll PerfState.playing 1600000 6) 0 = BellMark.none) ∧
    (0 ≤
  TowerTime.diff
    (TowerTime.plus (toll PerfState.playing 1600000 6).nextTarget
      (-(↑((Station.channelCfg (on (withRecord 1 (toll PerfState.playing 1600000 6))).st 0).lead * 1000) : Int)))
    (TimeBase.now (on (withRecord 1 (toll PerfState.playing 1600000 6))).st.tb)) ∧
    (TowerTime.diff
    (TowerTime.plus (toll PerfState.playing 1600000 6).nextTarget
      (-(↑((Station.channelCfg (on (withRecord 1 (toll PerfState.playing 1600000 6))).st 0).lead * 1000) : Int)))
    (TimeBase.now (on (withRecord 1 (toll PerfState.playing 1600000 6))).st.tb) ≤
  1500000) := by decide

/-- The hypotheses of `Obligations.PerformancesPlay`, clause 2.2.1.1. -/
theorem witness_toll_feed2 :
    (State.settled (on (withRecord 1 (toll PerfState.playing 100000 7)))) ∧
    (Station.running (on (withRecord 1 (toll PerfState.playing 100000 7))).st = true) ∧
    (1 < List.length (on (withRecord 1 (toll PerfState.playing 100000 7))).st.pf.table) ∧
    (Station.record (on (withRecord 1 (toll PerfState.playing 100000 7))).st 1 = some (toll PerfState.playing 100000 7)) ∧
    ((toll PerfState.playing 100000 7).state = PerfState.playing) ∧
    ((toll PerfState.playing 100000 7).hasPart = true) ∧
    ((toll PerfState.playing 100000 7).key.cls = PerfClass.toll) ∧
    ((toll PerfState.playing 100000 7).entriesOut = 0) ∧
    (StationBlock.channelOf (on (withRecord 1 (toll PerfState.playing 100000 7))).st.cfg
    (toll PerfState.playing 100000 7).key.number =
  some 0) ∧
    ((on (withRecord 1 (toll PerfState.playing 100000 7))).st.channels[0]? = some bell) ∧
    (bell.state = ChannelState.ready) ∧
    (bell.holder = Holder.none) ∧
    (bell.queue = []) ∧
    (Record.mark (toll PerfState.playing 100000 7) 0 = BellMark.none) ∧
    (0 ≤
  TowerTime.diff
    (TowerTime.plus (toll PerfState.playing 100000 7).nextTarget
      (-(↑((Station.channelCfg (on (withRecord 1 (toll PerfState.playing 100000 7))).st 0).lead * 1000) : Int)))
    (TimeBase.now (on (withRecord 1 (toll PerfState.playing 100000 7))).st.tb)) ∧
    (TowerTime.diff
    (TowerTime.plus (toll PerfState.playing 100000 7).nextTarget
      (-(↑((Station.channelCfg (on (withRecord 1 (toll PerfState.playing 100000 7))).st 0).lead * 1000) : Int)))
    (TimeBase.now (on (withRecord 1 (toll PerfState.playing 100000 7))).st.tb) ≤
  1500000) := by decide

/-- The hypotheses of `Obligations.PerformancesPlay`, clause 2.2.1.2. -/
theorem witness_toll_skips :
    (State.settled (on (withRecord 1 (toll PerfState.playing 99999 7)))) ∧
    (Station.running (on (withRecord 1 (toll PerfState.playing 99999 7))).st = true) ∧
    (1 < List.length (on (withRecord 1 (toll PerfState.playing 99999 7))).st.pf.table) ∧
    (Station.record (on (withRecord 1 (toll PerfState.playing 99999 7))).st 1 = some (toll PerfState.playing 99999 7)) ∧
    ((toll PerfState.playing 99999 7).state = PerfState.playing) ∧
    ((toll PerfState.playing 99999 7).hasPart = true) ∧
    ((toll PerfState.playing 99999 7).key.cls = PerfClass.toll) ∧
    ((toll PerfState.playing 99999 7).entriesOut = 0) ∧
    (StationBlock.channelOf (on (withRecord 1 (toll PerfState.playing 99999 7))).st.cfg
    (toll PerfState.playing 99999 7).key.number =
  some 0) ∧
    ((on (withRecord 1 (toll PerfState.playing 99999 7))).st.channels[0]? = some bell) ∧
    (bell.state = ChannelState.ready) ∧
    (bell.holder = Holder.none) ∧
    (bell.queue = []) ∧
    (Record.mark (toll PerfState.playing 99999 7) 0 = BellMark.none) ∧
    (TowerTime.diff
    (TowerTime.plus (toll PerfState.playing 99999 7).nextTarget
      (-(↑((Station.channelCfg (on (withRecord 1 (toll PerfState.playing 99999 7))).st 0).lead * 1000) : Int)))
    (TimeBase.now (on (withRecord 1 (toll PerfState.playing 99999 7))).st.tb) <
  0) ∧
    (0 < (toll PerfState.playing 99999 7).length) ∧
    ((toll PerfState.playing 99999 7).length ≤ (toll PerfState.playing 99999 7).cursor + 1) := by decide

/-- The hypotheses of `Obligations.RecordsEndAndHoursBegin`, clause 1.1. -/
theorem witness_record_ends :
    (State.settled (on (withRecord 1 (record tuneKey PerfState.ending 0 true)))) ∧
    (Station.running (on (withRecord 1 (record tuneKey PerfState.ending 0 true))).st = true) ∧
    (1 < List.length (on (withRecord 1 (record tuneKey PerfState.ending 0 true))).st.pf.table) ∧
    (Station.record (on (withRecord 1 (record tuneKey PerfState.ending 0 true))).st 1 =
  some (record tuneKey PerfState.ending 0 true)) ∧
    ((record tuneKey PerfState.ending 0 true).state = PerfState.ending) ∧
    ((record tuneKey PerfState.ending 0 true).entriesOut = 0) ∧
    ((((record tuneKey PerfState.ending 0 true).key.cls = PerfClass.tune ∨
      (record tuneKey PerfState.ending 0 true).key.cls = PerfClass.quarter) ∧
    ∃ e,
      e ∈ (record tuneKey PerfState.ending 0 true).ends ∧
        0 ≤ TowerTime.diff (TimeBase.now (on (withRecord 1 (record tuneKey PerfState.ending 0 true))).st.tb) e) ∨
  (record tuneKey PerfState.ending 0 true).key.cls = PerfClass.toll ∧
      (record tuneKey PerfState.ending 0 true).hasPart = true ∨
    (record tuneKey PerfState.ending 0 true).key.cls = PerfClass.hour) ∧
    (1 = 0 ∨ Station.record (on (withRecord 1 (record tuneKey PerfState.ending 0 true))).st 0 = none) ∧
    (∀ (m : BellMark), m ∈ (record tuneKey PerfState.ending 0 true).marks → BellMark.holds m = false) := by decide

/-- The hypotheses of `Obligations.RecordsEndAndHoursBegin`, clause 1.2.1. -/
theorem witness_toll_ends :
    (State.settled (on (recordAnd (holding (toll PerfState.ending 0 8)) heldBell))) ∧
    (Station.running (on (recordAnd (holding (toll PerfState.ending 0 8)) heldBell)).st = true) ∧
    (1 < List.length (on (recordAnd (holding (toll PerfState.ending 0 8)) heldBell)).st.pf.table) ∧
    (Station.record (on (recordAnd (holding (toll PerfState.ending 0 8)) heldBell)).st 1 =
  some (holding (toll PerfState.ending 0 8))) ∧
    ((holding (toll PerfState.ending 0 8)).state = PerfState.ending) ∧
    ((holding (toll PerfState.ending 0 8)).entriesOut = 0) ∧
    ((((holding (toll PerfState.ending 0 8)).key.cls = PerfClass.tune ∨
      (holding (toll PerfState.ending 0 8)).key.cls = PerfClass.quarter) ∧
    ∃ e,
      e ∈ (holding (toll PerfState.ending 0 8)).ends ∧
        0 ≤ TowerTime.diff (TimeBase.now (on (recordAnd (holding (toll PerfState.ending 0 8)) heldBell)).st.tb) e) ∨
  (holding (toll PerfState.ending 0 8)).key.cls = PerfClass.toll ∧
      (holding (toll PerfState.ending 0 8)).hasPart = true ∨
    (holding (toll PerfState.ending 0 8)).key.cls = PerfClass.hour) ∧
    (1 = 0 ∨ Station.record (on (recordAnd (holding (toll PerfState.ending 0 8)) heldBell)).st 0 = none) ∧
    (0 < 8) ∧
    ((holding (toll PerfState.ending 0 8)).marks = List.set (List.replicate 8 BellMark.none) 0 BellMark.held) ∧
    ((on (recordAnd (holding (toll PerfState.ending 0 8)) heldBell)).st.channels[0]? = some heldBell) ∧
    (heldBell.holder = Holder.perf 1 3) ∧
    (heldBell.waiting = none) := by decide

/-- The hypotheses of `Obligations.RecordsEndAndHoursBegin`, clause 1.2.2. -/
theorem witness_last_chime_ends :
    (State.settled lastChimeEndsCase) ∧
    (Station.running lastChimeEndsCase.st = true) ∧
    (1 < List.length lastChimeEndsCase.st.pf.table) ∧
    (Station.record lastChimeEndsCase.st 1 = some (record chimeKey PerfState.ending 0 true)) ∧
    ((record chimeKey PerfState.ending 0 true).state = PerfState.ending) ∧
    ((record chimeKey PerfState.ending 0 true).entriesOut = 0) ∧
    ((((record chimeKey PerfState.ending 0 true).key.cls = PerfClass.tune ∨
      (record chimeKey PerfState.ending 0 true).key.cls = PerfClass.quarter) ∧
    ∃ e,
      e ∈ (record chimeKey PerfState.ending 0 true).ends ∧
        0 ≤ TowerTime.diff (TimeBase.now lastChimeEndsCase.st.tb) e) ∨
  (record chimeKey PerfState.ending 0 true).key.cls = PerfClass.toll ∧
      (record chimeKey PerfState.ending 0 true).hasPart = true ∨
    (record chimeKey PerfState.ending 0 true).key.cls = PerfClass.hour) ∧
    (0 < 1) ∧
    (∀ (m : BellMark), m ∈ (record chimeKey PerfState.ending 0 true).marks → BellMark.holds m = false) ∧
    (TimeBase.inRange lastChimeEndsCase.st.tb) ∧
    (∀ (k : ChannelConfig), k ∈ lastChimeEndsCase.st.cfg.channels → k.lead ≤ 400) ∧
    (Station.record lastChimeEndsCase.st 0 = some hourWaits) ∧
    (hourWaits.key.cls = PerfClass.hour) ∧
    (hourWaits.state = PerfState.waiting) ∧
    (Key.isHourChime (record chimeKey PerfState.ending 0 true).key hourWaits.key.day hourWaits.key.minute = true) ∧
    (Performances.chimeStands
    (have __src := lastChimeEndsCase.st.pf;
    { table := List.set lastChimeEndsCase.st.pf.table 1 none,
      recent :=
        (if List.length lastChimeEndsCase.st.pf.recent < 8 then lastChimeEndsCase.st.pf.recent
          else List.drop 1 lastChimeEndsCase.st.pf.recent) ++
          [{ key := (record chimeKey PerfState.ending 0 true).key, outcome := KeyOutcome.ended,
              run := lastChimeEndsCase.st.tb.run : RecentKey }],
      silenced := __src.silenced, lastHour := __src.lastHour, quarter := __src.quarter : Performances })
    hourWaits.key.day hourWaits.key.minute =
  false) := by decide

/-- The hypotheses of `Obligations.RecordsEndAndHoursBegin`, clause 2.1. -/
theorem witness_key_expires :
    (State.settled keyOld) ∧
    (Station.running keyOld.st = true) ∧
    (keyOld.st.pf.recent =
  [{ key := tuneKey, outcome := KeyOutcome.ended, run := { sec := 400, cyc := 100 : RunTime } : RecentKey }]) ∧
    (RunTime.reached
    (RunTime.plus
      { key := tuneKey, outcome := KeyOutcome.ended, run := { sec := 400, cyc := 100 : RunTime } : RecentKey }.run
      (600 * 32768))
    keyOld.st.tb.run =
  true) := by decide

/-- The hypotheses of `Obligations.RecordsEndAndHoursBegin`, clause 2.2. -/
theorem witness_hour_deadline :
    (State.settled (on (withRecord 0 waitingHour))) ∧
    (Station.running (on (withRecord 0 waitingHour)).st = true) ∧
    (TimeBase.inRange (on (withRecord 0 waitingHour)).st.tb) ∧
    (0 < List.length (on (withRecord 0 waitingHour)).st.pf.table) ∧
    (Station.record (on (withRecord 0 waitingHour)).st 0 = some waitingHour) ∧
    (waitingHour.state = PerfState.waiting) ∧
    (waitingHour.key.cls = PerfClass.hour) ∧
    (waitingHour.hasPart = true) ∧
    (waitingHour.entriesOut = 0) ∧
    (waitingHour.cursor = 0) ∧
    (1 < waitingHour.length) ∧
    (Record.mark waitingHour 0 = BellMark.none) ∧
    (RunTime.reached { sec := 1000, cyc := 100 : RunTime } (on (withRecord 0 waitingHour)).st.tb.run = true) ∧
    (waitingHour.deadline2 = some { sec := 1000, cyc := 100 : RunTime } ∨
  waitingHour.deadline1 = some { sec := 1000, cyc := 100 : RunTime } ∧
    Performances.chimeStands (on (withRecord 0 waitingHour)).st.pf waitingHour.key.day waitingHour.key.minute = false ∧
      Performances.chimeRecent (on (withRecord 0 waitingHour)).st.pf waitingHour.key.day waitingHour.key.minute = false) ∧
    ((on (withRecord 0 waitingHour)).st.cfg.hourBell = some 1) ∧
    (StationBlock.channelOf (on (withRecord 0 waitingHour)).st.cfg 1 = some 0) ∧
    ((on (withRecord 0 waitingHour)).st.channels[0]? = some bell) ∧
    (bell.state = ChannelState.ready) ∧
    (bell.holder = Holder.none) ∧
    (bell.queue = []) ∧
    ((Station.channelCfg (on (withRecord 0 waitingHour)).st 0).lead ≤ 400) := by decide

/-- The hypotheses of `Obligations.RecordsEndAndHoursBegin`, clause 2.2. -/
theorem witness_hour_deadline1 :
    (State.settled hourDeadline1Case) ∧
    (Station.running hourDeadline1Case.st = true) ∧
    (TimeBase.inRange hourDeadline1Case.st.tb) ∧
    (0 < List.length hourDeadline1Case.st.pf.table) ∧
    (Station.record hourDeadline1Case.st 0 = some hourDeadline1Case2) ∧
    (hourDeadline1Case2.state = PerfState.waiting) ∧
    (hourDeadline1Case2.key.cls = PerfClass.hour) ∧
    (hourDeadline1Case2.hasPart = true) ∧
    (hourDeadline1Case2.entriesOut = 0) ∧
    (hourDeadline1Case2.cursor = 0) ∧
    (1 < hourDeadline1Case2.length) ∧
    (Record.mark hourDeadline1Case2 0 = BellMark.none) ∧
    (RunTime.reached { sec := 900, cyc := 0 : RunTime } hourDeadline1Case.st.tb.run = true) ∧
    (hourDeadline1Case2.deadline2 = some { sec := 900, cyc := 0 : RunTime } ∨
  hourDeadline1Case2.deadline1 = some { sec := 900, cyc := 0 : RunTime } ∧
    Performances.chimeStands hourDeadline1Case.st.pf hourDeadline1Case2.key.day hourDeadline1Case2.key.minute = false ∧
      Performances.chimeRecent hourDeadline1Case.st.pf hourDeadline1Case2.key.day hourDeadline1Case2.key.minute = false) ∧
    (hourDeadline1Case.st.cfg.hourBell = some 1) ∧
    (StationBlock.channelOf hourDeadline1Case.st.cfg 1 = some 0) ∧
    (hourDeadline1Case.st.channels[0]? = some bell) ∧
    (bell.state = ChannelState.ready) ∧
    (bell.holder = Holder.none) ∧
    (bell.queue = []) ∧
    ((Station.channelCfg hourDeadline1Case.st 0).lead ≤ 400) := by decide

/-- The hypotheses of `Obligations.HammersAreLaunched`, clause 1. -/
theorem witness_launch :
    (State.settled (on (withBell (panelBell 0)))) ∧
    (Station.running (on (withBell (panelBell 0))).st = true) ∧
    ((on (withBell (panelBell 0))).st.channels[0]? = some (panelBell 0)) ∧
    ((panelBell 0).queue = [panelEntry 0]) ∧
    ((panelBell 0).holder = Holder.panel) ∧
    ((panelBell 0).waiting = none) ∧
    ((panelBell 0).state = ChannelState.ready) ∧
    (0 ≤ Station.latenessOf (on (withBell (panelBell 0))).st 0 (panelEntry 0)) ∧
    ((panelEntry 0).late = LateClass.panel) ∧
    (Station.latenessOf (on (withBell (panelBell 0))).st 0 (panelEntry 0) ≤ 500000) ∧
    (∀ (t : RunTime),
  t ∈ (panelBell 0).lastLaunch →
    (Station.channelCfg (on (withBell (panelBell 0))).st 0).interval * 32768 ≤
      RunTime.elapsed t (on (withBell (panelBell 0))).st.tb.run * 1000) ∧
    (Station.slotFree (on (withBell (panelBell 0))).st 0 = true) := by decide

/-- The hypotheses of `Obligations.HammersAreLaunched`, clause 1. -/
theorem witness_launch2 :
    (State.settled launch2Case) ∧
    (Station.running launch2Case.st = true) ∧
    (launch2Case.st.channels[0]? = some launch2Case2) ∧
    (launch2Case2.queue = [panelEntry 500000]) ∧
    (launch2Case2.holder = Holder.panel) ∧
    (launch2Case2.waiting = none) ∧
    (launch2Case2.state = ChannelState.ready) ∧
    (0 ≤ Station.latenessOf launch2Case.st 0 (panelEntry 500000)) ∧
    ((panelEntry 500000).late = LateClass.panel) ∧
    (Station.latenessOf launch2Case.st 0 (panelEntry 500000) ≤ 500000) ∧
    (∀ (t : RunTime),
  t ∈ launch2Case2.lastLaunch →
    (Station.channelCfg launch2Case.st 0).interval * 32768 ≤ RunTime.elapsed t launch2Case.st.tb.run * 1000) ∧
    (Station.slotFree launch2Case.st 0 = true) := by decide

/-- The hypotheses of `Obligations.HammersAreLaunched`, clause 2.1. -/
theorem witness_launch_held :
    (State.settled (on (withBell (panelBell (-1))))) ∧
    ((on (withBell (panelBell (-1)))).st.channels[0]? = some (panelBell (-1))) ∧
    ((panelBell (-1)).queue = [panelEntry (-1)]) ∧
    (Station.latenessOf (on (withBell (panelBell (-1)))).st 0 (panelEntry (-1)) < 0 ∨
  (panelBell (-1)).state ≠ ChannelState.ready ∨
    (on (withBell (panelBell (-1)))).st.cfg.hammerSlots ≤ Station.slotsInUse (on (withBell (panelBell (-1)))).st ∨
      ∃ t,
        t ∈ (panelBell (-1)).lastLaunch ∧
          RunTime.elapsed t (on (withBell (panelBell (-1)))).st.tb.run * 1000 <
            (Station.channelCfg (on (withBell (panelBell (-1)))).st 0).interval * 32768) := by decide

/-- The hypotheses of `Obligations.HammersAreLaunched`, clause 2.1. -/
theorem witness_launch_held2 :
    (State.settled launchHeld2Case) ∧
    (launchHeld2Case.st.channels[0]? = some launchHeld2Case2) ∧
    (launchHeld2Case2.queue = [panelEntry 0]) ∧
    (Station.latenessOf launchHeld2Case.st 0 (panelEntry 0) < 0 ∨
  launchHeld2Case2.state ≠ ChannelState.ready ∨
    launchHeld2Case.st.cfg.hammerSlots ≤ Station.slotsInUse launchHeld2Case.st ∨
      ∃ t,
        t ∈ launchHeld2Case2.lastLaunch ∧
          RunTime.elapsed t launchHeld2Case.st.tb.run * 1000 <
            (Station.channelCfg launchHeld2Case.st 0).interval * 32768) := by decide

/-- The hypotheses of `Obligations.HammersAreLaunched`, clause 2.2.1.1. -/
theorem witness_late_entry :
    (State.settled (on (withBell (panelBell 500001)))) ∧
    (Station.running (on (withBell (panelBell 500001))).st = true) ∧
    ((on (withBell (panelBell 500001))).st.channels[0]? = some (panelBell 500001)) ∧
    ((panelBell 500001).queue = [panelEntry 500001]) ∧
    ((panelBell 500001).holder = Holder.panel) ∧
    ((panelBell 500001).waiting = none) ∧
    ((panelEntry 500001).late = LateClass.panel) ∧
    ((panelEntry 500001).phrase = Phrase.none) ∧
    (500000 < Station.latenessOf (on (withBell (panelBell 500001))).st 0 (panelEntry 500001)) := by decide

/-- The hypotheses of `Obligations.HammersAreLaunched`, clause 2.2.1.2. -/
theorem witness_late_note :
    (State.settled noteLate) ∧
    (Station.running noteLate.st = true) ∧
    (noteLate.st.channels[0]? = some lateWaiting) ∧
    (lateWaiting.waiting = some lateNote) ∧
    (lateNote.note.late = LateClass.tune) ∧
    (100000 < Station.latenessOf noteLate.st 0 lateNote.note) ∧
    (lateNote.slot < List.length noteLate.st.pf.table) ∧
    (Station.record noteLate.st lateNote.slot = some claimant) ∧
    (claimant.key.cls = PerfClass.tune) ∧
    (Record.mark claimant 0 = BellMark.claimed true) := by decide

/-- The hypotheses of `Obligations.HammersAreLaunched`, clause 2.2.2.1.1.1. -/
theorem witness_launch_note :
    (State.settled (on (recordAnd (oneOut (record tuneKey PerfState.playing 0 true)) (slotBell 100000 LateClass.tune)))) ∧
    (Station.running
    (on (recordAnd (oneOut (record tuneKey PerfState.playing 0 true)) (slotBell 100000 LateClass.tune))).st =
  true) ∧
    ((on (recordAnd (oneOut (record tuneKey PerfState.playing 0 true)) (slotBell 100000 LateClass.tune))).st.channels[0]? =
  some (slotBell 100000 LateClass.tune)) ∧
    ((slotBell 100000 LateClass.tune).queue = [slotEntry 100000 LateClass.tune]) ∧
    ((slotBell 100000 LateClass.tune).holder = Holder.perf 1 3) ∧
    ((slotBell 100000 LateClass.tune).waiting = none) ∧
    (1 <
  List.length
    (on (recordAnd (oneOut (record tuneKey PerfState.playing 0 true)) (slotBell 100000 LateClass.tune))).st.pf.table) ∧
    (Station.record (on (recordAnd (oneOut (record tuneKey PerfState.playing 0 true)) (slotBell 100000 LateClass.tune))).st
    1 =
  some (oneOut (record tuneKey PerfState.playing 0 true))) ∧
    ((slotBell 100000 LateClass.tune).state = ChannelState.ready) ∧
    (0 ≤
  Station.latenessOf
    (on (recordAnd (oneOut (record tuneKey PerfState.playing 0 true)) (slotBell 100000 LateClass.tune))).st 0
    (slotEntry 100000 LateClass.tune)) ∧
    (((slotEntry 100000 LateClass.tune).late = LateClass.tune ∨ (slotEntry 100000 LateClass.tune).late = LateClass.quarter) ∧
    Station.latenessOf
        (on (recordAnd (oneOut (record tuneKey PerfState.playing 0 true)) (slotBell 100000 LateClass.tune))).st 0
        (slotEntry 100000 LateClass.tune) ≤
      100000 ∨
  (slotEntry 100000 LateClass.tune).late = LateClass.toll ∨ (slotEntry 100000 LateClass.tune).late = LateClass.hour) ∧
    (∀ (t : RunTime),
  t ∈ (slotBell 100000 LateClass.tune).lastLaunch →
    (Station.channelCfg
            (on (recordAnd (oneOut (record tuneKey PerfState.playing 0 true)) (slotBell 100000 LateClass.tune))).st
            0).interval *
        32768 ≤
      RunTime.elapsed t
          (on
                  (recordAnd (oneOut (record tuneKey PerfState.playing 0 true))
                    (slotBell 100000 LateClass.tune))).st.tb.run *
        1000) ∧
    (Station.slotFree (on (recordAnd (oneOut (record tuneKey PerfState.playing 0 true)) (slotBell 100000 LateClass.tune))).st
    0 =
  true) ∧
    ((oneOut (record tuneKey PerfState.playing 0 true)).key.cls = PerfClass.tune ∨
  (oneOut (record tuneKey PerfState.playing 0 true)).key.cls = PerfClass.quarter) := by decide

/-- The hypotheses of `Obligations.HammersAreLaunched`, clause 2.2.2.1.1.2.1. -/
theorem witness_launch_toll :
    (State.settled (on (recordAnd (oneOut (toll PerfState.ending 0 8)) (slotBell 1000001 LateClass.toll)))) ∧
    (Station.running (on (recordAnd (oneOut (toll PerfState.ending 0 8)) (slotBell 1000001 LateClass.toll))).st = true) ∧
    ((on (recordAnd (oneOut (toll PerfState.ending 0 8)) (slotBell 1000001 LateClass.toll))).st.channels[0]? =
  some (slotBell 1000001 LateClass.toll)) ∧
    ((slotBell 1000001 LateClass.toll).queue = [slotEntry 1000001 LateClass.toll]) ∧
    ((slotBell 1000001 LateClass.toll).holder = Holder.perf 1 3) ∧
    ((slotBell 1000001 LateClass.toll).waiting = none) ∧
    (1 < List.length (on (recordAnd (oneOut (toll PerfState.ending 0 8)) (slotBell 1000001 LateClass.toll))).st.pf.table) ∧
    (Station.record (on (recordAnd (oneOut (toll PerfState.ending 0 8)) (slotBell 1000001 LateClass.toll))).st 1 =
  some (oneOut (toll PerfState.ending 0 8))) ∧
    ((slotBell 1000001 LateClass.toll).state = ChannelState.ready) ∧
    (0 ≤
  Station.latenessOf (on (recordAnd (oneOut (toll PerfState.ending 0 8)) (slotBell 1000001 LateClass.toll))).st 0
    (slotEntry 1000001 LateClass.toll)) ∧
    (((slotEntry 1000001 LateClass.toll).late = LateClass.tune ∨
      (slotEntry 1000001 LateClass.toll).late = LateClass.quarter) ∧
    Station.latenessOf (on (recordAnd (oneOut (toll PerfState.ending 0 8)) (slotBell 1000001 LateClass.toll))).st 0
        (slotEntry 1000001 LateClass.toll) ≤
      100000 ∨
  (slotEntry 1000001 LateClass.toll).late = LateClass.toll ∨ (slotEntry 1000001 LateClass.toll).late = LateClass.hour) ∧
    (∀ (t : RunTime),
  t ∈ (slotBell 1000001 LateClass.toll).lastLaunch →
    (Station.channelCfg (on (recordAnd (oneOut (toll PerfState.ending 0 8)) (slotBell 1000001 LateClass.toll))).st
            0).interval *
        32768 ≤
      RunTime.elapsed t
          (on (recordAnd (oneOut (toll PerfState.ending 0 8)) (slotBell 1000001 LateClass.toll))).st.tb.run *
        1000) ∧
    (Station.slotFree (on (recordAnd (oneOut (toll PerfState.ending 0 8)) (slotBell 1000001 LateClass.toll))).st 0 = true) ∧
    ((oneOut (toll PerfState.ending 0 8)).key.cls = PerfClass.toll) ∧
    ((oneOut (toll PerfState.ending 0 8)).state = PerfState.ending) := by decide

/-- The hypotheses of `Obligations.HammersAreLaunched`, clause 2.2.2.1.2. -/
theorem witness_late_tune :
    (State.settled (on (recordAnd (oneOut (record tuneKey PerfState.playing 0 true)) (slotBell 100001 LateClass.tune)))) ∧
    (Station.running
    (on (recordAnd (oneOut (record tuneKey PerfState.playing 0 true)) (slotBell 100001 LateClass.tune))).st =
  true) ∧
    ((on (recordAnd (oneOut (record tuneKey PerfState.playing 0 true)) (slotBell 100001 LateClass.tune))).st.channels[0]? =
  some (slotBell 100001 LateClass.tune)) ∧
    ((slotBell 100001 LateClass.tune).queue = [slotEntry 100001 LateClass.tune]) ∧
    ((slotBell 100001 LateClass.tune).holder = Holder.perf 1 3) ∧
    ((slotBell 100001 LateClass.tune).waiting = none) ∧
    (1 <
  List.length
    (on (recordAnd (oneOut (record tuneKey PerfState.playing 0 true)) (slotBell 100001 LateClass.tune))).st.pf.table) ∧
    (Station.record (on (recordAnd (oneOut (record tuneKey PerfState.playing 0 true)) (slotBell 100001 LateClass.tune))).st
    1 =
  some (oneOut (record tuneKey PerfState.playing 0 true))) ∧
    ((oneOut (record tuneKey PerfState.playing 0 true)).key.cls = PerfClass.tune ∨
  (oneOut (record tuneKey PerfState.playing 0 true)).key.cls = PerfClass.quarter) ∧
    ((slotEntry 100001 LateClass.tune).late = LateClass.tune ∨ (slotEntry 100001 LateClass.tune).late = LateClass.quarter) ∧
    ((slotEntry 100001 LateClass.tune).phrase = Phrase.none) ∧
    (100000 <
  Station.latenessOf
    (on (recordAnd (oneOut (record tuneKey PerfState.playing 0 true)) (slotBell 100001 LateClass.tune))).st 0
    (slotEntry 100001 LateClass.tune)) := by decide

/-- The hypotheses of `Obligations.DialsMoveTheHands`, clause 1.1. -/
theorem witness_dial_stands :
    (State.settled (dialDue (hands 1200))) ∧
    (Station.running (dialDue (hands 1200)).st = true) ∧
    ((dialDue (hands 1200)).st.tb.valid = true) ∧
    ((dialDue (hands 1200)).st.tb.dialDue = some 36000) ∧
    ((dialDue (hands 1200)).st.dials[0]? = some (hands 1200)) ∧
    (∀ (y : Dial), y ∈ List.drop 1 (dialDue (hands 1200)).st.dials → y.state = DialState.unused) ∧
    ((hands 1200).position = some 1200) ∧
    (1200 < 1440) ∧
    ((hands 1200).draw = DrawState.none) ∧
    ((hands 1200).pulseEnd = none) ∧
    ((hands 1200).state ≠ DialState.unused) ∧
    ((hands 1200).state ≠ DialState.faulted) ∧
    (((TimeBase.civil (dialDue (hands 1200)).st.tb).us / 1000000 / 30 % 1440 + 1440 - 1200) % 1440 = 0) := by decide

/-- The hypotheses of `Obligations.DialsMoveTheHands`, clause 1.2.1. -/
theorem witness_dial_pulses :
    (State.settled (dialDue (hands 1199))) ∧
    (Station.running (dialDue (hands 1199)).st = true) ∧
    ((dialDue (hands 1199)).st.tb.valid = true) ∧
    ((dialDue (hands 1199)).st.tb.dialDue = some 36000) ∧
    ((dialDue (hands 1199)).st.dials[0]? = some (hands 1199)) ∧
    (∀ (y : Dial), y ∈ List.drop 1 (dialDue (hands 1199)).st.dials → y.state = DialState.unused) ∧
    ((hands 1199).position = some 1199) ∧
    (1199 < 1440) ∧
    ((hands 1199).draw = DrawState.none) ∧
    ((hands 1199).pulseEnd = none) ∧
    ((hands 1199).state ≠ DialState.unused) ∧
    ((hands 1199).state ≠ DialState.faulted) ∧
    (((TimeBase.civil (dialDue (hands 1199)).st.tb).us / 1000000 / 30 % 1440 + 1440 - 1199) % 1440 = 1) := by decide

/-- The hypotheses of `Obligations.DialsMoveTheHands`, clause 1.2.2. -/
theorem witness_dial_holds :
    (State.settled (dialDue (hands 479))) ∧
    (Station.running (dialDue (hands 479)).st = true) ∧
    ((dialDue (hands 479)).st.tb.valid = true) ∧
    ((dialDue (hands 479)).st.tb.dialDue = some 36000) ∧
    ((dialDue (hands 479)).st.dials[0]? = some (hands 479)) ∧
    (∀ (y : Dial), y ∈ List.drop 1 (dialDue (hands 479)).st.dials → y.state = DialState.unused) ∧
    ((hands 479).position = some 479) ∧
    (479 < 1440) ∧
    ((hands 479).draw = DrawState.none) ∧
    ((hands 479).pulseEnd = none) ∧
    ((hands 479).state ≠ DialState.unused) ∧
    ((hands 479).state ≠ DialState.faulted) ∧
    (720 < ((TimeBase.civil (dialDue (hands 479)).st.tb).us / 1000000 / 30 % 1440 + 1440 - 479) % 1440) := by decide

/-- The hypotheses of `Obligations.DialsMoveTheHands`, clause 1.2.2. -/
theorem witness_dial_holds2 :
    (State.settled (dialDue (hands 1201))) ∧
    (Station.running (dialDue (hands 1201)).st = true) ∧
    ((dialDue (hands 1201)).st.tb.valid = true) ∧
    ((dialDue (hands 1201)).st.tb.dialDue = some 36000) ∧
    ((dialDue (hands 1201)).st.dials[0]? = some (hands 1201)) ∧
    (∀ (y : Dial), y ∈ List.drop 1 (dialDue (hands 1201)).st.dials → y.state = DialState.unused) ∧
    ((hands 1201).position = some 1201) ∧
    (1201 < 1440) ∧
    ((hands 1201).draw = DrawState.none) ∧
    ((hands 1201).pulseEnd = none) ∧
    ((hands 1201).state ≠ DialState.unused) ∧
    ((hands 1201).state ≠ DialState.faulted) ∧
    (720 < ((TimeBase.civil (dialDue (hands 1201)).st.tb).us / 1000000 / 30 % 1440 + 1440 - 1201) % 1440) := by decide

/-- The hypotheses of `Obligations.DialsMoveTheHands`, clause 2.2.1. -/
theorem witness_pulse_begins :
    (State.settled (on (withDial catching))) ∧
    (Station.inService (on (withDial catching)).st = true) ∧
    ((on (withDial catching)).st.dials[0]? = some catching) ∧
    (∀ (p : Nat), p ∈ catching.position → p < 1440) ∧
    (catching.state = DialState.catchingUp ∨ catching.state = DialState.seeking) ∧
    (catching.pulseEnd = none) ∧
    (∀ (t : RunTime),
  t ∈ catching.lastBegin →
    RunTime.reached (RunTime.plus t ((Station.dialCfg (on (withDial catching)).st 0).interval * 32768))
        (on (withDial catching)).st.tb.run =
      true) := by decide

/-- The hypotheses of `Obligations.DialsMoveTheHands`, clause 2.2.2.1.1. -/
theorem witness_pulse_plain :
    (State.settled (on (withDial (pulsing 1200 0 false)))) ∧
    (Station.running (on (withDial (pulsing 1200 0 false))).st = true) ∧
    ((on (withDial (pulsing 1200 0 false))).st.tb.valid = true) ∧
    ((on (withDial (pulsing 1200 0 false))).st.dials[0]? = some (pulsing 1200 0 false)) ∧
    ((pulsing 1200 0 false).position = some 1200) ∧
    (1200 < 1440) ∧
    ((pulsing 1200 0 false).state = DialState.pulsing) ∧
    ((pulsing 1200 0 false).draw = DrawState.none) ∧
    ((pulsing 1200 0 false).pulseEnd = some { sec := 1000, cyc := 100 : RunTime }) ∧
    (RunTime.reached { sec := 1000, cyc := 100 : RunTime } (on (withDial (pulsing 1200 0 false))).st.tb.run = true) ∧
    (1200 = (TimeBase.civil (on (withDial (pulsing 1200 0 false))).st.tb).us / 1000000 / 30 % 1440) ∧
    (1200 ≠ 0) ∧
    (¬((pulsing 1200 0 false).beganActive = false ∧ Station.atTwelve (on (withDial (pulsing 1200 0 false))).st 0 = true)) := by decide

/-- The hypotheses of `Obligations.DialsMoveTheHands`, clause 2.2.2.1.2.1. -/
theorem witness_pulse_twelve :
    (State.settled (on (twelve (midnight (withDial (pulsing 0 1 false)))))) ∧
    (Station.running (on (twelve (midnight (withDial (pulsing 0 1 false))))).st = true) ∧
    ((on (twelve (midnight (withDial (pulsing 0 1 false))))).st.tb.valid = true) ∧
    ((on (twelve (midnight (withDial (pulsing 0 1 false))))).st.dials[0]? = some (pulsing 0 1 false)) ∧
    ((pulsing 0 1 false).position = some 0) ∧
    (0 < 1440) ∧
    ((pulsing 0 1 false).state = DialState.pulsing) ∧
    ((pulsing 0 1 false).draw = DrawState.none) ∧
    ((pulsing 0 1 false).pulseEnd = some { sec := 1000, cyc := 100 : RunTime }) ∧
    (RunTime.reached { sec := 1000, cyc := 100 : RunTime }
    (on (twelve (midnight (withDial (pulsing 0 1 false))))).st.tb.run =
  true) ∧
    (0 = (TimeBase.civil (on (twelve (midnight (withDial (pulsing 0 1 false))))).st.tb).us / 1000000 / 30 % 1440) ∧
    (0 = 0) ∧
    ((pulsing 0 1 false).beganActive = false ∧
  Station.atTwelve (on (twelve (midnight (withDial (pulsing 0 1 false))))).st 0 = true) := by decide

/-- The hypotheses of `Obligations.DialsMoveTheHands`, clause 2.2.2.1.2.2.1. -/
theorem witness_pulse_missed :
    (State.settled (on (midnight (withDial (pulsing 0 1 false))))) ∧
    (Station.running (on (midnight (withDial (pulsing 0 1 false)))).st = true) ∧
    ((on (midnight (withDial (pulsing 0 1 false)))).st.tb.valid = true) ∧
    ((on (midnight (withDial (pulsing 0 1 false)))).st.dials[0]? = some (pulsing 0 1 false)) ∧
    ((pulsing 0 1 false).position = some 0) ∧
    (0 < 1440) ∧
    ((pulsing 0 1 false).state = DialState.pulsing) ∧
    ((pulsing 0 1 false).draw = DrawState.none) ∧
    ((pulsing 0 1 false).pulseEnd = some { sec := 1000, cyc := 100 : RunTime }) ∧
    (RunTime.reached { sec := 1000, cyc := 100 : RunTime } (on (midnight (withDial (pulsing 0 1 false)))).st.tb.run = true) ∧
    (0 = (TimeBase.civil (on (midnight (withDial (pulsing 0 1 false)))).st.tb).us / 1000000 / 30 % 1440) ∧
    (0 = 0) ∧
    (¬((pulsing 0 1 false).beganActive = false ∧ Station.atTwelve (on (midnight (withDial (pulsing 0 1 false)))).st 0 = true)) := by decide

/-- The hypotheses of `Obligations.DialsMoveTheHands`, clause 2.2.2.1.2.2.1. -/
theorem witness_pulse_missed2 :
    (State.settled (on (midnight (withDial (pulsing 0 0 false))))) ∧
    (Station.running (on (midnight (withDial (pulsing 0 0 false)))).st = true) ∧
    ((on (midnight (withDial (pulsing 0 0 false)))).st.tb.valid = true) ∧
    ((on (midnight (withDial (pulsing 0 0 false)))).st.dials[0]? = some (pulsing 0 0 false)) ∧
    ((pulsing 0 0 false).position = some 0) ∧
    (0 < 1440) ∧
    ((pulsing 0 0 false).state = DialState.pulsing) ∧
    ((pulsing 0 0 false).draw = DrawState.none) ∧
    ((pulsing 0 0 false).pulseEnd = some { sec := 1000, cyc := 100 : RunTime }) ∧
    (RunTime.reached { sec := 1000, cyc := 100 : RunTime } (on (midnight (withDial (pulsing 0 0 false)))).st.tb.run = true) ∧
    (0 = (TimeBase.civil (on (midnight (withDial (pulsing 0 0 false)))).st.tb).us / 1000000 / 30 % 1440) ∧
    (0 = 0) ∧
    (¬((pulsing 0 0 false).beganActive = false ∧ Station.atTwelve (on (midnight (withDial (pulsing 0 0 false)))).st 0 = true)) := by decide

/-- The hypotheses of `Obligations.DialsMoveTheHands`, clause 2.2.2.1.2.2.2. -/
theorem witness_pulse_slip :
    (State.settled (on (twelve (midnight (withDial (pulsing 1439 1 false)))))) ∧
    (Station.running (on (twelve (midnight (withDial (pulsing 1439 1 false))))).st = true) ∧
    ((on (twelve (midnight (withDial (pulsing 1439 1 false))))).st.tb.valid = true) ∧
    ((on (twelve (midnight (withDial (pulsing 1439 1 false))))).st.dials[0]? = some (pulsing 1439 1 false)) ∧
    ((pulsing 1439 1 false).position = some 1439) ∧
    (1439 < 1440) ∧
    ((pulsing 1439 1 false).state = DialState.pulsing) ∧
    ((pulsing 1439 1 false).draw = DrawState.none) ∧
    ((pulsing 1439 1 false).pulseEnd = some { sec := 1000, cyc := 100 : RunTime }) ∧
    (RunTime.reached { sec := 1000, cyc := 100 : RunTime }
    (on (twelve (midnight (withDial (pulsing 1439 1 false))))).st.tb.run =
  true) ∧
    ((TimeBase.civil (on (twelve (midnight (withDial (pulsing 1439 1 false))))).st.tb).us / 1000000 / 30 % 1440 = 0) ∧
    (1439 ≠ 0) ∧
    ((pulsing 1439 1 false).beganActive = false ∧
  Station.atTwelve (on (twelve (midnight (withDial (pulsing 1439 1 false))))).st 0 = true) := by decide

/-- The hypotheses of `Obligations.DialsMoveTheHands`, clause 2.2.2.2.1.1. -/
theorem witness_pulse_overlaps :
    (State.settled (on (withDial (overlapping 998)))) ∧
    (Station.running (on (withDial (overlapping 998))).st = true) ∧
    ((on (withDial (overlapping 998))).st.tb.valid = true) ∧
    ((on (withDial (overlapping 998))).st.dials[0]? = some (overlapping 998)) ∧
    ((overlapping 998).position = some 1199) ∧
    (1199 ≠ 0) ∧
    (1199 < 1440) ∧
    ((overlapping 998).state = DialState.catchingUp) ∧
    ((overlapping 998).draw = DrawState.live) ∧
    ((overlapping 998).pulseEnd = some { sec := 1000, cyc := 100 : RunTime }) ∧
    (RunTime.reached { sec := 1000, cyc := 100 : RunTime } (on (withDial (overlapping 998))).st.tb.run = true) ∧
    ((overlapping 998).beganActive = true ∨ Station.atTwelve (on (withDial (overlapping 998))).st 0 = false) ∧
    ((overlapping 998).lastBegin = some { sec := 998, cyc := 100 : RunTime }) ∧
    (1 ≤ ((TimeBase.civil (on (withDial (overlapping 998))).st.tb).us / 1000000 / 30 % 1440 + 1440 - 1199) % 1440) ∧
    (((TimeBase.civil (on (withDial (overlapping 998))).st.tb).us / 1000000 / 30 % 1440 + 1440 - 1199) % 1440 ≤ 720) ∧
    (RunTime.reached
    (RunTime.plus { sec := 998, cyc := 100 : RunTime }
      ((Station.dialCfg (on (withDial (overlapping 998))).st 0).interval * 32768))
    (on (withDial (overlapping 998))).st.tb.run =
  true) := by decide

/-- The hypotheses of `Obligations.DialsMoveTheHands`, clause 2.2.2.2.1.2. -/
theorem witness_pulse_waits :
    (State.settled (on (withDial (overlapping 999)))) ∧
    (Station.running (on (withDial (overlapping 999))).st = true) ∧
    ((on (withDial (overlapping 999))).st.tb.valid = true) ∧
    ((on (withDial (overlapping 999))).st.dials[0]? = some (overlapping 999)) ∧
    ((overlapping 999).position = some 1199) ∧
    (1199 ≠ 0) ∧
    (1199 < 1440) ∧
    ((overlapping 999).state = DialState.catchingUp) ∧
    ((overlapping 999).draw = DrawState.live) ∧
    ((overlapping 999).pulseEnd = some { sec := 1000, cyc := 100 : RunTime }) ∧
    (RunTime.reached { sec := 1000, cyc := 100 : RunTime } (on (withDial (overlapping 999))).st.tb.run = true) ∧
    ((overlapping 999).beganActive = true ∨ Station.atTwelve (on (withDial (overlapping 999))).st 0 = false) ∧
    ((overlapping 999).lastBegin = some { sec := 999, cyc := 100 : RunTime }) ∧
    (1 ≤ ((TimeBase.civil (on (withDial (overlapping 999))).st.tb).us / 1000000 / 30 % 1440 + 1440 - 1199) % 1440) ∧
    (((TimeBase.civil (on (withDial (overlapping 999))).st.tb).us / 1000000 / 30 % 1440 + 1440 - 1199) % 1440 ≤ 720) ∧
    (RunTime.reached
    (RunTime.plus { sec := 999, cyc := 100 : RunTime }
      ((Station.dialCfg (on (withDial (overlapping 999))).st 0).interval * 32768))
    (on (withDial (overlapping 999))).st.tb.run =
  false) := by decide

/-- The hypotheses of `Obligations.RenewalsAnnounceTheDraw`, clause 1.1. -/
theorem witness_dial_renewal :
    (State.settled (on (drawing 8 5 (withDial seeking)))) ∧
    (Station.inService (on (drawing 8 5 (withDial seeking))).st = true) ∧
    ((on (drawing 8 5 (withDial seeking))).st.dials[0]? = some seeking) ∧
    (seeking.draw = DrawState.live) ∧
    (seeking.renewalDue = some { sec := 1000, cyc := 100 : RunTime }) ∧
    (RunTime.reached { sec := 1000, cyc := 100 : RunTime } (on (drawing 8 5 (withDial seeking))).st.tb.run = true) ∧
    (Supply.ownEntry (on (drawing 8 5 (withDial seeking))).st.sup (8 + 0) =
  some { station := 3, id := 8, amount := 5, own := true, hold := 150, announced := none : DrawEntry }) ∧
    (∀ (q : QueueSlot), q ∈ (on (drawing 8 5 (withDial seeking))).st.bus.queue → Frame.isDrawOf (8 + 0) q.frame = false) ∧
    (Station.running (on (drawing 8 5 (withDial seeking))).st = true) ∧
    (Bus.mayQueue (on (drawing 8 5 (withDial seeking))).st.bus = true) ∧
    (List.length (on (drawing 8 5 (withDial seeking))).st.bus.queue < 8) := by decide

/-- The hypotheses of `Obligations.RenewalsAnnounceTheDraw`, clause 1.1. -/
theorem witness_dial_renewal_known :
    (State.settled dialRenewalKnownCase) ∧
    (Station.inService dialRenewalKnownCase.st = true) ∧
    (dialRenewalKnownCase.st.dials[0]? = some dialRenewalKnownCase2) ∧
    (dialRenewalKnownCase2.draw = DrawState.live) ∧
    (dialRenewalKnownCase2.renewalDue = some { sec := 1000, cyc := 100 : RunTime }) ∧
    (RunTime.reached { sec := 1000, cyc := 100 : RunTime } dialRenewalKnownCase.st.tb.run = true) ∧
    (Supply.ownEntry dialRenewalKnownCase.st.sup (8 + 0) =
  some { station := 3, id := 8, amount := 5, own := true, hold := 150, announced := none : DrawEntry }) ∧
    (∀ (q : QueueSlot), q ∈ dialRenewalKnownCase.st.bus.queue → Frame.isDrawOf (8 + 0) q.frame = false) ∧
    (Station.running dialRenewalKnownCase.st = true) ∧
    (Bus.mayQueue dialRenewalKnownCase.st.bus = true) ∧
    (List.length dialRenewalKnownCase.st.bus.queue < 8) := by decide

/-- The hypotheses of `Obligations.RenewalsAnnounceTheDraw`, clause 1.2. -/
theorem witness_dial_renewal_refused :
    (State.settled (on (muted (drawing 8 5 (withDial seeking))))) ∧
    (Station.inService (on (muted (drawing 8 5 (withDial seeking)))).st = true) ∧
    ((on (muted (drawing 8 5 (withDial seeking)))).st.dials[0]? = some seeking) ∧
    (seeking.draw = DrawState.live) ∧
    (seeking.renewalDue = some { sec := 1000, cyc := 100 : RunTime }) ∧
    (RunTime.reached { sec := 1000, cyc := 100 : RunTime } (on (muted (drawing 8 5 (withDial seeking)))).st.tb.run = true) ∧
    (Supply.ownEntry (on (muted (drawing 8 5 (withDial seeking)))).st.sup (8 + 0) =
  some { station := 3, id := 8, amount := 5, own := true, hold := 150, announced := none : DrawEntry }) ∧
    (∀ (q : QueueSlot),
  q ∈ (on (muted (drawing 8 5 (withDial seeking)))).st.bus.queue → Frame.isDrawOf (8 + 0) q.frame = false) ∧
    (Station.running (on (muted (drawing 8 5 (withDial seeking)))).st = false ∨
  Bus.mayQueue (on (muted (drawing 8 5 (withDial seeking)))).st.bus = false ∨
    8 ≤ List.length (on (muted (drawing 8 5 (withDial seeking)))).st.bus.queue) := by decide

/-- The hypotheses of `Obligations.RenewalsAnnounceTheDraw`, clause 2.1.1. -/
theorem witness_circuit_renewal :
    (State.settled (on (drawing 0 10 (withCircuit (lit CircuitState.on))))) ∧
    (Station.inService (on (drawing 0 10 (withCircuit (lit CircuitState.on)))).st = true) ∧
    ((on (drawing 0 10 (withCircuit (lit CircuitState.on)))).st.sup.circuits[0]? = some (lit CircuitState.on)) ∧
    ((lit CircuitState.on).draw = DrawState.live) ∧
    ((lit CircuitState.on).renewalDue = some { sec := 1000, cyc := 100 : RunTime }) ∧
    (RunTime.reached { sec := 1000, cyc := 100 : RunTime }
    (on (drawing 0 10 (withCircuit (lit CircuitState.on)))).st.tb.run =
  true) ∧
    (Supply.ownEntry (on (drawing 0 10 (withCircuit (lit CircuitState.on)))).st.sup 0 =
  some { station := 3, id := 0, amount := 10, own := true, hold := 150, announced := none : DrawEntry }) ∧
    (∀ (q : QueueSlot),
  q ∈ (on (drawing 0 10 (withCircuit (lit CircuitState.on)))).st.bus.queue → Frame.isDrawOf 0 q.frame = false) ∧
    (Station.running (on (drawing 0 10 (withCircuit (lit CircuitState.on)))).st = true) ∧
    (Bus.mayQueue (on (drawing 0 10 (withCircuit (lit CircuitState.on)))).st.bus = true) ∧
    (List.length (on (drawing 0 10 (withCircuit (lit CircuitState.on)))).st.bus.queue < 8) := by decide

/-- The hypotheses of `Obligations.RenewalsAnnounceTheDraw`, clause 2.1.2.1. -/
theorem witness_circuit_renewal_refused :
    (State.settled (on (muted (drawing 0 10 (withCircuit (lit CircuitState.on)))))) ∧
    (Station.inService (on (muted (drawing 0 10 (withCircuit (lit CircuitState.on))))).st = true) ∧
    ((on (muted (drawing 0 10 (withCircuit (lit CircuitState.on))))).st.sup.circuits[0]? = some (lit CircuitState.on)) ∧
    ((lit CircuitState.on).draw = DrawState.live) ∧
    ((lit CircuitState.on).renewalDue = some { sec := 1000, cyc := 100 : RunTime }) ∧
    (RunTime.reached { sec := 1000, cyc := 100 : RunTime }
    (on (muted (drawing 0 10 (withCircuit (lit CircuitState.on))))).st.tb.run =
  true) ∧
    (Supply.ownEntry (on (muted (drawing 0 10 (withCircuit (lit CircuitState.on))))).st.sup 0 =
  some { station := 3, id := 0, amount := 10, own := true, hold := 150, announced := none : DrawEntry }) ∧
    (∀ (q : QueueSlot),
  q ∈ (on (muted (drawing 0 10 (withCircuit (lit CircuitState.on))))).st.bus.queue → Frame.isDrawOf 0 q.frame = false) ∧
    (Station.running (on (muted (drawing 0 10 (withCircuit (lit CircuitState.on))))).st = false ∨
  Bus.mayQueue (on (muted (drawing 0 10 (withCircuit (lit CircuitState.on))))).st.bus = false ∨
    8 ≤ List.length (on (muted (drawing 0 10 (withCircuit (lit CircuitState.on))))).st.bus.queue) := by decide

/-- The hypotheses of `Obligations.RenewalsAnnounceTheDraw`, clause 2.1.2.2. -/
theorem witness_circuit_renewal_served :
    (State.settled increaseWaits) ∧
    (Station.inService increaseWaits.st = true) ∧
    (increaseWaits.st.sup.circuits[0]? = some (lit CircuitState.starting)) ∧
    ((lit CircuitState.starting).draw = DrawState.live) ∧
    ((lit CircuitState.starting).renewalDue = some { sec := 1000, cyc := 100 : RunTime }) ∧
    (RunTime.reached { sec := 1000, cyc := 100 : RunTime } increaseWaits.st.tb.run = true) ∧
    (Supply.ownEntry increaseWaits.st.sup 0 =
  some { station := 3, id := 0, amount := 20, own := true, hold := 150, announced := none : DrawEntry }) ∧
    (¬∀ (q : QueueSlot), q ∈ increaseWaits.st.bus.queue → Frame.isDrawOf 0 q.frame = false) := by decide

/-- The hypotheses of `Obligations.HeardDrawsAreKept`, clause 1.1. -/
theorem witness_draw_discarded :
    (State.settled (on (hearing base))) ∧
    (Station.running (on (hearing base)).st = true) ∧
    (Station.Hears (on (hearing base)).st 14 start) ∧
    (14 < 15) ∧
    (List.length [15, 255, 151] = 3) ∧
    ((on (hearing base)).st.sup.waiting = []) ∧
    (∀ (e : DrawEntry), e ∈ (on (hearing base)).st.sup.draws → e.own = true → e.station ≠ 14) ∧
    (byteAt [15, 255, 151] 1 = 0 ∨ byteAt [15, 255, 151] 2 = 0 ∨ 150 < byteAt [15, 255, 151] 2) := by decide

/-- The hypotheses of `Obligations.HeardDrawsAreKept`, clause 1.2.1. -/
theorem witness_draw_refreshed :
    (State.settled (on (hearing (withDraws [heardDraw 1])))) ∧
    (Station.running (on (hearing (withDraws [heardDraw 1]))).st = true) ∧
    (Station.Hears (on (hearing (withDraws [heardDraw 1]))).st 14 start) ∧
    (14 < 15) ∧
    (List.length [15, 1, 150] = 3) ∧
    ((on (hearing (withDraws [heardDraw 1]))).st.sup.waiting = []) ∧
    (∀ (e : DrawEntry), e ∈ (on (hearing (withDraws [heardDraw 1]))).st.sup.draws → e.own = true → e.station ≠ 14) ∧
    (byteAt [15, 1, 150] 0 < 16) ∧
    (1 ≤ byteAt [15, 1, 150] 1) ∧
    (1 ≤ byteAt [15, 1, 150] 2) ∧
    (byteAt [15, 1, 150] 2 ≤ 150) ∧
    (∃ e,
  e ∈ (on (hearing (withDraws [heardDraw 1]))).st.sup.draws ∧
    (fun e => e.own = false ∧ e.station = 14 ∧ e.id = byteAt [15, 1, 150] 0) e) := by decide

/-- The hypotheses of `Obligations.HeardDrawsAreKept`, clause 1.2.2.1. -/
theorem witness_draw_made :
    (State.settled (on (hearing (withDraws manyDraws)))) ∧
    (Station.running (on (hearing (withDraws manyDraws))).st = true) ∧
    (Station.Hears (on (hearing (withDraws manyDraws))).st 14 start) ∧
    (14 < 15) ∧
    (List.length [15, 255, 1] = 3) ∧
    ((on (hearing (withDraws manyDraws))).st.sup.waiting = []) ∧
    (∀ (e : DrawEntry), e ∈ (on (hearing (withDraws manyDraws))).st.sup.draws → e.own = true → e.station ≠ 14) ∧
    (byteAt [15, 255, 1] 0 < 16) ∧
    (1 ≤ byteAt [15, 255, 1] 1) ∧
    (1 ≤ byteAt [15, 255, 1] 2) ∧
    (byteAt [15, 255, 1] 2 ≤ 150) ∧
    (∀ (e : DrawEntry),
  e ∈ (on (hearing (withDraws manyDraws))).st.sup.draws →
    ¬(fun e => e.own = false ∧ e.station = 14 ∧ e.id = byteAt [15, 255, 1] 0) e) ∧
    (Supply.heardCount (on (hearing (withDraws manyDraws))).st.sup < 38) := by decide

/-- The hypotheses of `Obligations.HeardDrawsAreKept`, clause 1.2.2.2. -/
theorem witness_draw_overflows :
    (State.settled (on (hearing (withDraws (heardDraw 150 :: manyDraws))))) ∧
    (Station.running (on (hearing (withDraws (heardDraw 150 :: manyDraws)))).st = true) ∧
    (Station.Hears (on (hearing (withDraws (heardDraw 150 :: manyDraws)))).st 14 start) ∧
    (14 < 15) ∧
    (List.length [14, 255, 1] = 3) ∧
    ((on (hearing (withDraws (heardDraw 150 :: manyDraws)))).st.sup.waiting = []) ∧
    (∀ (e : DrawEntry),
  e ∈ (on (hearing (withDraws (heardDraw 150 :: manyDraws)))).st.sup.draws → e.own = true → e.station ≠ 14) ∧
    (byteAt [14, 255, 1] 0 < 16) ∧
    (1 ≤ byteAt [14, 255, 1] 1) ∧
    (1 ≤ byteAt [14, 255, 1] 2) ∧
    (byteAt [14, 255, 1] 2 ≤ 150) ∧
    (∀ (e : DrawEntry),
  e ∈ (on (hearing (withDraws (heardDraw 150 :: manyDraws)))).st.sup.draws →
    ¬(fun e => e.own = false ∧ e.station = 14 ∧ e.id = byteAt [14, 255, 1] 0) e) ∧
    (38 ≤ Supply.heardCount (on (hearing (withDraws (heardDraw 150 :: manyDraws)))).st.sup) := by decide

/-- The hypotheses of `Obligations.HeardDrawsAreKept`, clause 2.1. -/
theorem witness_draw_of_twin :
    (State.settled twinDraws) ∧
    (Station.running twinDraws.st = true) ∧
    (twinDraws.st.bus.state = BusState.duplicate) ∧
    (twinDraws.st.bus.current = some { capture := start, role := Role.receiving : FrameInProgress }) ∧
    (List.length [0, 255, 1] = 3) ∧
    (twinDraws.st.sup.waiting = []) ∧
    (∃ e, e ∈ twinDraws.st.sup.draws ∧ e.own = true ∧ e.station = twinDraws.st.cfg.number ∧ e.id = byteAt [0, 255, 1] 0) := by decide

/-- The hypotheses of `Obligations.HeardDrawsAreKept`, clause 2.2.1. -/
theorem witness_free :
    (State.settled (on (hearing (withDraws (heardDraw 150 :: manyDraws))))) ∧
    (Station.running (on (hearing (withDraws (heardDraw 150 :: manyDraws)))).st = true) ∧
    (Station.Hears (on (hearing (withDraws (heardDraw 150 :: manyDraws)))).st 14 start) ∧
    (List.length [15] = 1) ∧
    ((on (hearing (withDraws (heardDraw 150 :: manyDraws)))).st.sup.waiting = []) ∧
    ((on (hearing (withDraws (heardDraw 150 :: manyDraws)))).st.sup.incomplete = false) := by decide

/-- The hypotheses of `Obligations.HeardDrawsAreKept`, clause 2.2.2.1. -/
theorem witness_entry_expires :
    (State.settled (on (withDraws (heardDraw 150 :: manyDraws)))) ∧
    (Station.inService (on (withDraws (heardDraw 150 :: manyDraws))).st = true) ∧
    (Supply.heardEntry (on (withDraws (heardDraw 150 :: manyDraws))).st.sup 14 15 = some (heardDraw 150)) ∧
    ((heardDraw 150).announced = some { sec := 850, cyc := 100 : RunTime }) ∧
    (RunTime.reached (RunTime.plus { sec := 850, cyc := 100 : RunTime } ((heardDraw 150).hold * 32768))
    (on (withDraws (heardDraw 150 :: manyDraws))).st.tb.run =
  true) ∧
    ((on (withDraws (heardDraw 150 :: manyDraws))).st.sup.waiting = []) ∧
    ((on (withDraws (heardDraw 150 :: manyDraws))).st.sup.incomplete = false) := by decide

/-- The hypotheses of `Obligations.HeardDrawsAreKept`, clause 2.2.2.2. -/
theorem witness_view_complete :
    (State.settled incompleteView) ∧
    (Station.inService incompleteView.st = true) ∧
    (Supply.heardEntry incompleteView.st.sup 14 15 = some (heardDraw 150)) ∧
    ((heardDraw 150).announced = some { sec := 850, cyc := 100 : RunTime }) ∧
    (RunTime.reached (RunTime.plus { sec := 850, cyc := 100 : RunTime } ((heardDraw 150).hold * 32768))
    incompleteView.st.tb.run =
  true) ∧
    (incompleteView.st.sup.waiting = []) ∧
    (incompleteView.st.sup.incomplete = true) ∧
    (incompleteView.st.sup.lastOverflow = some { sec := 850, cyc := 100 : RunTime }) ∧
    (150 * 32768 ≤ RunTime.elapsed { sec := 850, cyc := 100 : RunTime } incompleteView.st.tb.run) ∧
    (Supply.heardCount incompleteView.st.sup ≤ 38) := by decide

/-- The hypotheses of `Obligations.CheckingAndLoadingEnd`, clause 1. -/
theorem witness_checking_ends :
    (State.settled checking) ∧
    (checking.st.seq.state = RunState.checking) ∧
    (200 * 32768 ≤ RunTime.elapsed { sec := 0, cyc := 0 : RunTime } checking.st.tb.run * 1000) := by decide

/-- The hypotheses of `Obligations.CheckingAndLoadingEnd`, clause 2.1. -/
theorem witness_loading_bad :
    (State.settled (loading [])) ∧
    ((loading []).st.seq.state = RunState.loading) ∧
    (false = false ∨ readStationBlock (loading []).mem = none) := by decide

/-- The hypotheses of `Obligations.CheckingAndLoadingEnd`, clause 2.1. -/
theorem witness_loading_bad2 :
    (State.settled (loading [])) ∧
    ((loading []).st.seq.state = RunState.loading) ∧
    (true = false ∨ readStationBlock (loading []).mem = none) := by decide +kernel

/-- The hypotheses of `Obligations.CheckingAndLoadingEnd`, clause 2.2.1. -/
theorem witness_loading_good :
    (State.settled (loading blockMemory)) ∧
    ((loading blockMemory).st.seq.state = RunState.loading) ∧
    (readStationBlock (loading blockMemory).mem = some theBlock) := by decide +kernel

/-- The hypotheses of `Obligations.CheckingAndLoadingEnd`, clause 2.2.2.1. -/
theorem witness_block_good :
    (readStationBlock blockMemory = some theBlock) := by decide +kernel

/-- The hypotheses of `Obligations.ListeningTimesOut`, clause 1.1. -/
theorem witness_listening_unset :
    (State.settled (listeningEnds false)) ∧
    ((listeningEnds false).st.seq.state = RunState.listening) ∧
    ((listeningEnds false).st.seq.timeout = some { sec := 1000, cyc := 100 : RunTime }) ∧
    (RunTime.reached { sec := 1000, cyc := 100 : RunTime } (listeningEnds false).st.tb.run = true) ∧
    (∀ (p : Option Peer), p ∈ (listeningEnds false).st.ag.peers → p = none) ∧
    (∀ (x : Dial), x ∈ (listeningEnds false).st.dials → x.state = DialState.unused ∧ x.draw = DrawState.none) ∧
    (∀ (x : Circuit), x ∈ (listeningEnds false).st.sup.circuits → x.state = CircuitState.unused ∧ x.draw = DrawState.none) ∧
    (∀ (e : DrawEntry), e ∈ (listeningEnds false).st.sup.draws → e.own = false) ∧
    ((listeningEnds false).st.tb.valid = false) := by decide

/-- The hypotheses of `Obligations.ListeningTimesOut`, clause 1.2.1. -/
theorem witness_listening_valid :
    (State.settled (listeningEnds true)) ∧
    ((listeningEnds true).st.seq.state = RunState.listening) ∧
    ((listeningEnds true).st.seq.timeout = some { sec := 1000, cyc := 100 : RunTime }) ∧
    (RunTime.reached { sec := 1000, cyc := 100 : RunTime } (listeningEnds true).st.tb.run = true) ∧
    (∀ (p : Option Peer), p ∈ (listeningEnds true).st.ag.peers → p = none) ∧
    (∀ (x : Dial), x ∈ (listeningEnds true).st.dials → x.state = DialState.unused ∧ x.draw = DrawState.none) ∧
    (∀ (x : Circuit), x ∈ (listeningEnds true).st.sup.circuits → x.state = CircuitState.unused ∧ x.draw = DrawState.none) ∧
    (∀ (e : DrawEntry), e ∈ (listeningEnds true).st.sup.draws → e.own = false) ∧
    ((listeningEnds true).st.tb.valid = true ∧
  (listeningEnds true).st.ag.refState ≠ RefState.locked ∧
    (listeningEnds true).st.pg.scanMark = none ∧
      (listeningEnds true).st.pg.calendar = List.replicate 96 none ∧ (listeningEnds true).st.sup.override = false) ∧
    ((∀ (bell : Nat),
    bell ∈ (listeningEnds true).st.cfg.hourBell → StationBlock.isOwn (listeningEnds true).st.cfg bell = false) ∨
  (listeningEnds true).st.pf.silenced = true ∨
    300000000 <
      (TowerTime.civil (TimeBase.now (listeningEnds true).st.tb) (listeningEnds true).st.tb.offset).us -
        (TowerTime.civil (TimeBase.now (listeningEnds true).st.tb) (listeningEnds true).st.tb.offset).us / 3600000000 *
          3600000000) := by decide

/-- The hypotheses of `Obligations.ItemsAreRead`, clause 1.1. -/
theorem witness_item_short :
    (State.Asked (on (hearing base)) ask start) ∧
    (List.length [12, 0, 0] < 4) := by decide

/-- The hypotheses of `Obligations.ItemsAreRead`, clause 1.2.1.1. -/
theorem witness_item_table :
    (State.Asked (on (hearing base)) ask start) ∧
    (4 ≤ List.length [13, 0, 0, 0]) ∧
    (12 < byteAt [13, 0, 0, 0] 0) := by decide

/-- The hypotheses of `Obligations.ItemsAreRead`, clause 1.2.1.2.1. -/
theorem witness_item_counter :
    (State.Asked (on (hearing base)) ask start) ∧
    (4 ≤ List.length [12, 0, 12, 0]) ∧
    (byteAt [12, 0, 12, 0] 0 = 12) ∧
    (word16 [12, 0, 12, 0] 1 ≤ 12) ∧
    (byteAt [12, 0, 12, 0] 3 = 0) := by decide

/-- The hypotheses of `Obligations.ItemsAreRead`, clause 1.2.1.2.2.1. -/
theorem witness_item_index :
    (State.Asked (on (hearing base)) ask start) ∧
    (4 ≤ List.length [12, 0, 13, 0]) ∧
    (byteAt [12, 0, 13, 0] 0 = 12) ∧
    (12 < word16 [12, 0, 13, 0] 1 ∨ byteAt [12, 0, 13, 0] 3 ≠ 0) := by decide

/-- The hypotheses of `Obligations.ItemsAreRead`, clause 1.2.1.2.2.2.1. -/
theorem witness_item_scene :
    (State.Asked (on (hearing base)) ask start) ∧
    (4 ≤ List.length [11, 0, 15, 0]) ∧
    (byteAt [11, 0, 15, 0] 0 = 11) ∧
    (word16 [11, 0, 15, 0] 1 ≤ 15) ∧
    (byteAt [11, 0, 15, 0] 3 = 0) := by decide

/-- The hypotheses of `Obligations.ItemsAreRead`, clause 1.2.1.2.2.2.2.1. -/
theorem witness_item_scene_part :
    (State.Asked (on (hearing base)) ask start) ∧
    (4 ≤ List.length [11, 0, 15, 1]) ∧
    (byteAt [11, 0, 15, 1] 0 = 11) ∧
    (15 < word16 [11, 0, 15, 1] 1 ∨ byteAt [11, 0, 15, 1] 3 ≠ 0) := by decide

/-- The hypotheses of `Obligations.ItemsAreRead`, clause 1.2.1.2.2.2.2.2.1. -/
theorem witness_item_dusk :
    (State.Asked (on (hearing base)) ask start) ∧
    (4 ≤ List.length [10, 0, 45, 0]) ∧
    (byteAt [10, 0, 45, 0] 0 = 10) ∧
    (word16 [10, 0, 45, 0] 1 ≤ 45) ∧
    (byteAt [10, 0, 45, 0] 3 = 0) := by decide

/-- The hypotheses of `Obligations.ItemsAreRead`, clause 1.2.1.2.2.2.2.2.2.1. -/
theorem witness_item_dusk_index :
    (State.Asked (on (hearing base)) ask start) ∧
    (4 ≤ List.length [10, 0, 46, 0]) ∧
    (byteAt [10, 0, 46, 0] 0 = 10) ∧
    (45 < word16 [10, 0, 46, 0] 1 ∨ byteAt [10, 0, 46, 0] 3 ≠ 0) := by decide

/-- The hypotheses of `Obligations.ItemsAreRead`, clause 1.2.1.2.2.2.2.2.2.2.1. -/
theorem witness_item_no_index :
    (State.Asked (on (hearing base)) ask start) ∧
    (4 ≤ List.length [3, 7, 12, 0]) ∧
    (byteAt [3, 7, 12, 0] 0 ≠ 8) ∧
    (Station.item (Station.heard (on (hearing base)).st) (byteAt [3, 7, 12, 0] 0) (word16 [3, 7, 12, 0] 1) = none) := by decide

/-- The hypotheses of `Obligations.ItemsAreRead`, clause 1.2.1.2.2.2.2.2.2.2.2.1. -/
theorem witness_item_empty :
    (State.Asked (on (hearing base)) ask start) ∧
    (4 ≤ List.length [6, 0, 47, 0]) ∧
    (byteAt [6, 0, 47, 0] 0 ≠ 8) ∧
    (Station.item (Station.heard (on (hearing base)).st) (byteAt [6, 0, 47, 0] 0) (word16 [6, 0, 47, 0] 1) = some none) := by decide

/-- The hypotheses of `Obligations.ItemsAreRead`, clause 1.2.1.2.2.2.2.2.2.2.2.2.1. -/
theorem witness_item_bytes :
    (State.Asked (on (hearing base)) ask start) ∧
    (4 ≤ List.length [4, 0, 3, 3]) ∧
    (byteAt [4, 0, 3, 3] 0 ≠ 8) ∧
    (Station.item (Station.heard (on (hearing base)).st) (byteAt [4, 0, 3, 3] 0) (word16 [4, 0, 3, 3] 1) =
  some (some (dialItem (Station.dialCfg base 3) (Station.dial base 3)))) ∧
    (8 * byteAt [4, 0, 3, 3] 3 < List.length (dialItem (Station.dialCfg base 3) (Station.dial base 3))) := by decide

/-- The hypotheses of `Obligations.ItemsAreRead`, clause 1.2.1.2.2.2.2.2.2.2.2.2.2. -/
theorem witness_item_no_part :
    (State.Asked (on (hearing base)) ask start) ∧
    (4 ≤ List.length [4, 0, 3, 4]) ∧
    (byteAt [4, 0, 3, 4] 0 ≠ 8) ∧
    (Station.item (Station.heard (on (hearing base)).st) (byteAt [4, 0, 3, 4] 0) (word16 [4, 0, 3, 4] 1) =
  some (some (dialItem (Station.dialCfg base 3) (Station.dial base 3)))) ∧
    (List.length (dialItem (Station.dialCfg base 3) (Station.dial base 3)) ≤ 8 * byteAt [4, 0, 3, 4] 3) := by decide

/-- The hypotheses of `Obligations.ItemsAreRead`, clause 1.2.2.1. -/
theorem witness_note_short :
    (State.Asked (on (hearing base)) ask start) ∧
    (byteAt [8, 1, 0, 0] 0 = 8) ∧
    (List.length [8, 1, 0, 0] < 5) := by decide

/-- The hypotheses of `Obligations.ItemsAreRead`, clause 1.2.2.2.1.1. -/
theorem witness_item_note_range :
    (State.Asked (on (hearing base)) ask start) ∧
    (byteAt [8, 250, 8, 0, 0] 0 = 8) ∧
    (5 ≤ List.length [8, 250, 8, 0, 0]) ∧
    (byteAt [8, 250, 8, 0, 0] 1 = 0 ∨
  250 < byteAt [8, 250, 8, 0, 0] 1 ∨ 2048 ≤ word16 [8, 250, 8, 0, 0] 2 ∨ byteAt [8, 250, 8, 0, 0] 4 ≠ 0) := by decide

/-- The hypotheses of `Obligations.ItemsAreRead`, clause 1.2.2.2.1.2. -/
theorem witness_note_read :
    (State.Asked (on (hearing (oneTune 16 base))) ask start) ∧
    (byteAt [8, 250, 0, 0, 0] 0 = 8) ∧
    (5 ≤ List.length [8, 250, 0, 0, 0]) ∧
    (1 ≤ byteAt [8, 250, 0, 0, 0] 1) ∧
    (byteAt [8, 250, 0, 0, 0] 1 ≤ 250) ∧
    (word16 [8, 250, 0, 0, 0] 2 < 2048) ∧
    (byteAt [8, 250, 0, 0, 0] 4 = 0) := by decide

/-- The hypotheses of `Obligations.ItemsAreRead`, clause 1.2.2.2.2. -/
theorem witness_unknown :
    (State.Asked (on (hearing base)) ask start) := by decide

/-- The hypotheses of `Obligations.ItemsAreRead`, clause 2.1.2.2.1. -/
theorem witness_recent_item :
    (6 ≤ 6) := by decide

/-- The hypotheses of `Obligations.ItemsAreRead`, clause 2.1.2.1. -/
theorem witness_record_item :
    (5 < 6) := by decide

/-- The hypotheses of `Obligations.FailedAttemptsAreCounted`, clause 1.2. -/
theorem witness_arbitration_held :
    (State.settled (holdsMark (trying base 0 0 (Frame.mark (some topMark))))) ∧
    ((holdsMark (trying base 0 0 (Frame.mark (some topMark)))).st.bus.current =
  some { capture := start, role := Role.sending 4 : FrameInProgress }) ∧
    ((holdsMark (trying base 0 0 (Frame.mark (some topMark)))).st.bus.heldMark = true) := by decide

/-- The hypotheses of `Obligations.FailedAttemptsAreCounted`, clause 2.1.2.1. -/
theorem witness_error_held :
    (State.settled (holdsMark (trying base 6 0 (Frame.mark (some topMark))))) ∧
    (Station.running (holdsMark (trying base 6 0 (Frame.mark (some topMark)))).st = true) ∧
    (Bus.mayQueue (holdsMark (trying base 6 0 (Frame.mark (some topMark)))).st.bus = true) ∧
    (Bus.agrees (holdsMark (trying base 6 0 (Frame.mark (some topMark)))).st.bus) ∧
    ((holdsMark (trying base 6 0 (Frame.mark (some topMark)))).st.bus.current =
  some
    { capture := start,
      role := Role.sending { frame := Frame.mark (some topMark), age := 4, errors := 6, unheard := 0 : QueueSlot }.age :
      FrameInProgress }) ∧
    (Bus.slotAt (holdsMark (trying base 6 0 (Frame.mark (some topMark)))).st.bus
    { frame := Frame.mark (some topMark), age := 4, errors := 6, unheard := 0 : QueueSlot }.age =
  some { frame := Frame.mark (some topMark), age := 4, errors := 6, unheard := 0 : QueueSlot }) ∧
    ((holdsMark (trying base 6 0 (Frame.mark (some topMark)))).st.bus.send + 8 ≤ 255) ∧
    ({ frame := Frame.mark (some topMark), age := 4, errors := 6, unheard := 0 : QueueSlot }.errors + 1 < 8) ∧
    ((holdsMark (trying base 6 0 (Frame.mark (some topMark)))).st.bus.heldMark = true) := by decide

/-- The hypotheses of `Obligations.FailedAttemptsAreCounted`, clause 2.1.2.2.1. -/
theorem witness_dropped_held :
    (State.settled (holdsMark (trying base 7 0 (Frame.mark (some topMark))))) ∧
    (Station.running (holdsMark (trying base 7 0 (Frame.mark (some topMark)))).st = true) ∧
    (Bus.mayQueue (holdsMark (trying base 7 0 (Frame.mark (some topMark)))).st.bus = true) ∧
    (Bus.agrees (holdsMark (trying base 7 0 (Frame.mark (some topMark)))).st.bus) ∧
    ((holdsMark (trying base 7 0 (Frame.mark (some topMark)))).st.bus.current =
  some
    { capture := start,
      role := Role.sending { frame := Frame.mark (some topMark), age := 4, errors := 7, unheard := 0 : QueueSlot }.age :
      FrameInProgress }) ∧
    (Bus.slotAt (holdsMark (trying base 7 0 (Frame.mark (some topMark)))).st.bus
    { frame := Frame.mark (some topMark), age := 4, errors := 7, unheard := 0 : QueueSlot }.age =
  some { frame := Frame.mark (some topMark), age := 4, errors := 7, unheard := 0 : QueueSlot }) ∧
    ((holdsMark (trying base 7 0 (Frame.mark (some topMark)))).st.bus.send + 8 ≤ 255) ∧
    (8 ≤ { frame := Frame.mark (some topMark), age := 4, errors := 7, unheard := 0 : QueueSlot }.errors + 1) ∧
    ((holdsMark (trying base 7 0 (Frame.mark (some topMark)))).st.bus.heldMark = true) ∧
    (Frame.isMark { frame := Frame.mark (some topMark), age := 4, errors := 7, unheard := 0 : QueueSlot }.frame = true) := by decide

/-- The hypotheses of `Obligations.FailedAttemptsAreCounted`, clause 2.1.2.2.2.1. -/
theorem witness_answer_dropped :
    (State.settled (trying base 7 0 (Frame.answer 14 9 12 ReqOutcome.done [] false))) ∧
    (Station.running (trying base 7 0 (Frame.answer 14 9 12 ReqOutcome.done [] false)).st = true) ∧
    (Bus.mayQueue (trying base 7 0 (Frame.answer 14 9 12 ReqOutcome.done [] false)).st.bus = true) ∧
    (Bus.agrees (trying base 7 0 (Frame.answer 14 9 12 ReqOutcome.done [] false)).st.bus) ∧
    ((trying base 7 0 (Frame.answer 14 9 12 ReqOutcome.done [] false)).st.bus.current =
  some
    { capture := start,
      role :=
        Role.sending
          { frame := Frame.answer 14 9 12 ReqOutcome.done [] false, age := 4, errors := 7, unheard := 0 :
              QueueSlot }.age :
      FrameInProgress }) ∧
    (Bus.slotAt (trying base 7 0 (Frame.answer 14 9 12 ReqOutcome.done [] false)).st.bus
    { frame := Frame.answer 14 9 12 ReqOutcome.done [] false, age := 4, errors := 7, unheard := 0 : QueueSlot }.age =
  some { frame := Frame.answer 14 9 12 ReqOutcome.done [] false, age := 4, errors := 7, unheard := 0 : QueueSlot }) ∧
    ((trying base 7 0 (Frame.answer 14 9 12 ReqOutcome.done [] false)).st.bus.send + 8 ≤ 255) ∧
    (8 ≤
  { frame := Frame.answer 14 9 12 ReqOutcome.done [] false, age := 4, errors := 7, unheard := 0 : QueueSlot }.errors + 1) ∧
    ((trying base 7 0 (Frame.answer 14 9 12 ReqOutcome.done [] false)).st.bus.heldMark = false) ∧
    (Frame.isMark
      { frame := Frame.answer 14 9 12 ReqOutcome.done [] false, age := 4, errors := 7, unheard := 0 :
          QueueSlot }.frame =
    true ∨
  Frame.isReportless
      { frame := Frame.answer 14 9 12 ReqOutcome.done [] false, age := 4, errors := 7, unheard := 0 :
          QueueSlot }.frame =
    true) := by decide

/-- The hypotheses of `Obligations.FailedAttemptsAreCounted`, clause 2.1.2.2.2.2.1. -/
theorem witness_cue_dropped :
    (State.settled (trying (withRecord 1 cueWaits) 7 0 cueSlot.frame)) ∧
    (Station.running (trying (withRecord 1 cueWaits) 7 0 cueSlot.frame).st = true) ∧
    (Bus.mayQueue (trying (withRecord 1 cueWaits) 7 0 cueSlot.frame).st.bus = true) ∧
    (Bus.agrees (trying (withRecord 1 cueWaits) 7 0 cueSlot.frame).st.bus) ∧
    ((trying (withRecord 1 cueWaits) 7 0 cueSlot.frame).st.bus.current =
  some
    { capture := start,
      role := Role.sending { frame := cueSlot.frame, age := 4, errors := 7, unheard := 0 : QueueSlot }.age :
      FrameInProgress }) ∧
    (Bus.slotAt (trying (withRecord 1 cueWaits) 7 0 cueSlot.frame).st.bus
    { frame := cueSlot.frame, age := 4, errors := 7, unheard := 0 : QueueSlot }.age =
  some { frame := cueSlot.frame, age := 4, errors := 7, unheard := 0 : QueueSlot }) ∧
    ((trying (withRecord 1 cueWaits) 7 0 cueSlot.frame).st.bus.send + 8 ≤ 255) ∧
    (8 ≤ { frame := cueSlot.frame, age := 4, errors := 7, unheard := 0 : QueueSlot }.errors + 1) ∧
    ((trying (withRecord 1 cueWaits) 7 0 cueSlot.frame).st.bus.heldMark = false) ∧
    ({ frame := cueSlot.frame, age := 4, errors := 7, unheard := 0 : QueueSlot }.frame = Frame.cue tuneKey 1504 600 8) ∧
    (Performances.slotOf (trying (withRecord 1 cueWaits) 7 0 cueSlot.frame).st.pf tuneKey = some 1) ∧
    (Station.record (trying (withRecord 1 cueWaits) 7 0 cueSlot.frame).st 1 = some cueWaits) ∧
    (cueWaits.frameState = FrameState.queued) := by decide

/-- The hypotheses of `Obligations.FailedAttemptsAreCounted`, clause 2.1.2.2.2.2.2.1. -/
theorem witness_renewal_dropped :
    (State.settled (trying (drawing 0 10 base) 7 0 (Frame.draw 0 10 150 DrawPurpose.renewal))) ∧
    (Station.running (trying (drawing 0 10 base) 7 0 (Frame.draw 0 10 150 DrawPurpose.renewal)).st = true) ∧
    (Bus.mayQueue (trying (drawing 0 10 base) 7 0 (Frame.draw 0 10 150 DrawPurpose.renewal)).st.bus = true) ∧
    (Bus.agrees (trying (drawing 0 10 base) 7 0 (Frame.draw 0 10 150 DrawPurpose.renewal)).st.bus) ∧
    ((trying (drawing 0 10 base) 7 0 (Frame.draw 0 10 150 DrawPurpose.renewal)).st.bus.current =
  some
    { capture := start,
      role :=
        Role.sending
          { frame := Frame.draw 0 10 150 DrawPurpose.renewal, age := 4, errors := 7, unheard := 0 : QueueSlot }.age :
      FrameInProgress }) ∧
    (Bus.slotAt (trying (drawing 0 10 base) 7 0 (Frame.draw 0 10 150 DrawPurpose.renewal)).st.bus
    { frame := Frame.draw 0 10 150 DrawPurpose.renewal, age := 4, errors := 7, unheard := 0 : QueueSlot }.age =
  some { frame := Frame.draw 0 10 150 DrawPurpose.renewal, age := 4, errors := 7, unheard := 0 : QueueSlot }) ∧
    ((trying (drawing 0 10 base) 7 0 (Frame.draw 0 10 150 DrawPurpose.renewal)).st.bus.send + 8 ≤ 255) ∧
    (8 ≤ { frame := Frame.draw 0 10 150 DrawPurpose.renewal, age := 4, errors := 7, unheard := 0 : QueueSlot }.errors + 1) ∧
    ((trying (drawing 0 10 base) 7 0 (Frame.draw 0 10 150 DrawPurpose.renewal)).st.bus.heldMark = false) ∧
    ({ frame := Frame.draw 0 10 150 DrawPurpose.renewal, age := 4, errors := 7, unheard := 0 : QueueSlot }.frame =
  Frame.draw 0 10 150 DrawPurpose.renewal) ∧
    ((trying (drawing 0 10 base) 7 0 (Frame.draw 0 10 150 DrawPurpose.renewal)).st.sup.waiting = []) := by decide

/-- The hypotheses of `Obligations.FailedAttemptsAreCounted`, clause 2.1.2.2.2.2.2.2.1. -/
theorem witness_draw_dropped_waits :
    (State.settled (trying (asks 101) 7 0 (Frame.draw 0 101 150 DrawPurpose.new))) ∧
    (Station.running (trying (asks 101) 7 0 (Frame.draw 0 101 150 DrawPurpose.new)).st = true) ∧
    (Bus.mayQueue (trying (asks 101) 7 0 (Frame.draw 0 101 150 DrawPurpose.new)).st.bus = true) ∧
    (Bus.agrees (trying (asks 101) 7 0 (Frame.draw 0 101 150 DrawPurpose.new)).st.bus) ∧
    ((trying (asks 101) 7 0 (Frame.draw 0 101 150 DrawPurpose.new)).st.bus.current =
  some
    { capture := start,
      role :=
        Role.sending
          { frame := Frame.draw 0 101 150 DrawPurpose.new, age := 4, errors := 7, unheard := 0 : QueueSlot }.age :
      FrameInProgress }) ∧
    (Bus.slotAt (trying (asks 101) 7 0 (Frame.draw 0 101 150 DrawPurpose.new)).st.bus
    { frame := Frame.draw 0 101 150 DrawPurpose.new, age := 4, errors := 7, unheard := 0 : QueueSlot }.age =
  some { frame := Frame.draw 0 101 150 DrawPurpose.new, age := 4, errors := 7, unheard := 0 : QueueSlot }) ∧
    ((trying (asks 101) 7 0 (Frame.draw 0 101 150 DrawPurpose.new)).st.bus.send + 8 ≤ 255) ∧
    (8 ≤ { frame := Frame.draw 0 101 150 DrawPurpose.new, age := 4, errors := 7, unheard := 0 : QueueSlot }.errors + 1) ∧
    ((trying (asks 101) 7 0 (Frame.draw 0 101 150 DrawPurpose.new)).st.bus.heldMark = false) ∧
    ({ frame := Frame.draw 0 101 150 DrawPurpose.new, age := 4, errors := 7, unheard := 0 : QueueSlot }.frame =
  Frame.draw (queuedDraw 101).id (queuedDraw 101).amount (queuedDraw 101).hold DrawPurpose.new) ∧
    ((trying (asks 101) 7 0 (Frame.draw 0 101 150 DrawPurpose.new)).st.sup.waiting = [queuedDraw 101]) ∧
    ((queuedDraw 101).queued = true) ∧
    ((queuedDraw 101).increase = false) ∧
    ((trying (asks 101) 7 0 (Frame.draw 0 101 150 DrawPurpose.new)).st.sup.incomplete = true ∨
  Station.placingLimit (trying (asks 101) 7 0 (Frame.draw 0 101 150 DrawPurpose.new)).st <
    Supply.view (trying (asks 101) 7 0 (Frame.draw 0 101 150 DrawPurpose.new)).st.sup + (queuedDraw 101).amount) := by decide

/-- The hypotheses of `Obligations.FailedAttemptsAreCounted`, clause 2.1.2.2.2.2.2.2.2. -/
theorem witness_draw_dropped_again :
    (State.settled (trying (asks 100) 7 0 (Frame.draw 0 100 150 DrawPurpose.new))) ∧
    (Station.running (trying (asks 100) 7 0 (Frame.draw 0 100 150 DrawPurpose.new)).st = true) ∧
    (Bus.mayQueue (trying (asks 100) 7 0 (Frame.draw 0 100 150 DrawPurpose.new)).st.bus = true) ∧
    (Bus.agrees (trying (asks 100) 7 0 (Frame.draw 0 100 150 DrawPurpose.new)).st.bus) ∧
    ((trying (asks 100) 7 0 (Frame.draw 0 100 150 DrawPurpose.new)).st.bus.current =
  some
    { capture := start,
      role :=
        Role.sending
          { frame := Frame.draw 0 100 150 DrawPurpose.new, age := 4, errors := 7, unheard := 0 : QueueSlot }.age :
      FrameInProgress }) ∧
    (Bus.slotAt (trying (asks 100) 7 0 (Frame.draw 0 100 150 DrawPurpose.new)).st.bus
    { frame := Frame.draw 0 100 150 DrawPurpose.new, age := 4, errors := 7, unheard := 0 : QueueSlot }.age =
  some { frame := Frame.draw 0 100 150 DrawPurpose.new, age := 4, errors := 7, unheard := 0 : QueueSlot }) ∧
    ((trying (asks 100) 7 0 (Frame.draw 0 100 150 DrawPurpose.new)).st.bus.send + 8 ≤ 255) ∧
    (8 ≤ { frame := Frame.draw 0 100 150 DrawPurpose.new, age := 4, errors := 7, unheard := 0 : QueueSlot }.errors + 1) ∧
    ((trying (asks 100) 7 0 (Frame.draw 0 100 150 DrawPurpose.new)).st.bus.heldMark = false) ∧
    ({ frame := Frame.draw 0 100 150 DrawPurpose.new, age := 4, errors := 7, unheard := 0 : QueueSlot }.frame =
  Frame.draw (queuedDraw 100).id (queuedDraw 100).amount (queuedDraw 100).hold DrawPurpose.new) ∧
    ((trying (asks 100) 7 0 (Frame.draw 0 100 150 DrawPurpose.new)).st.sup.waiting = [queuedDraw 100]) ∧
    ((queuedDraw 100).queued = true) ∧
    ((queuedDraw 100).increase = false) ∧
    ((trying (asks 100) 7 0 (Frame.draw 0 100 150 DrawPurpose.new)).st.sup.incomplete = false) ∧
    (Supply.view (trying (asks 100) 7 0 (Frame.draw 0 100 150 DrawPurpose.new)).st.sup + (queuedDraw 100).amount ≤
  Station.placingLimit (trying (asks 100) 7 0 (Frame.draw 0 100 150 DrawPurpose.new)).st) ∧
    (List.length
    (List.filter
      (fun o =>
        decide
          (o.age ≠
            { frame := Frame.draw 0 100 150 DrawPurpose.new, age := 4, errors := 7, unheard := 0 : QueueSlot }.age))
      (trying (asks 100) 7 0 (Frame.draw 0 100 150 DrawPurpose.new)).st.bus.queue) <
  8) := by decide

/-- The hypotheses of `Obligations.CompletedAttemptsAreReported`, clause 1.2.2.1. -/
theorem witness_heard_held :
    (State.settled (holdsMark (trying base 0 0 (Frame.mark (some topMark))))) ∧
    (Station.running (holdsMark (trying base 0 0 (Frame.mark (some topMark)))).st = true) ∧
    (Bus.mayQueue (holdsMark (trying base 0 0 (Frame.mark (some topMark)))).st.bus = true) ∧
    (Bus.agrees (holdsMark (trying base 0 0 (Frame.mark (some topMark)))).st.bus) ∧
    ((holdsMark (trying base 0 0 (Frame.mark (some topMark)))).st.bus.current =
  some
    { capture := start,
      role := Role.sending { frame := Frame.mark (some topMark), age := 4, errors := 0, unheard := 0 : QueueSlot }.age :
      FrameInProgress }) ∧
    (Bus.slotAt (holdsMark (trying base 0 0 (Frame.mark (some topMark)))).st.bus
    { frame := Frame.mark (some topMark), age := 4, errors := 0, unheard := 0 : QueueSlot }.age =
  some { frame := Frame.mark (some topMark), age := 4, errors := 0, unheard := 0 : QueueSlot }) ∧
    ((holdsMark (trying base 0 0 (Frame.mark (some topMark)))).st.bus.heldMark = true) ∧
    (Frame.isMark { frame := Frame.mark (some topMark), age := 4, errors := 0, unheard := 0 : QueueSlot }.frame = true) := by decide

/-- The hypotheses of `Obligations.CompletedAttemptsAreReported`, clause 1.2.2.2. -/
theorem witness_cue_completes :
    (State.settled (trying (withRecord 1 cueWaits) 0 0 cueSlot.frame)) ∧
    (Station.running (trying (withRecord 1 cueWaits) 0 0 cueSlot.frame).st = true) ∧
    (Bus.mayQueue (trying (withRecord 1 cueWaits) 0 0 cueSlot.frame).st.bus = true) ∧
    (Bus.agrees (trying (withRecord 1 cueWaits) 0 0 cueSlot.frame).st.bus) ∧
    ((trying (withRecord 1 cueWaits) 0 0 cueSlot.frame).st.bus.current =
  some
    { capture := start,
      role := Role.sending { frame := cueSlot.frame, age := 4, errors := 0, unheard := 0 : QueueSlot }.age :
      FrameInProgress }) ∧
    (Bus.slotAt (trying (withRecord 1 cueWaits) 0 0 cueSlot.frame).st.bus
    { frame := cueSlot.frame, age := 4, errors := 0, unheard := 0 : QueueSlot }.age =
  some { frame := cueSlot.frame, age := 4, errors := 0, unheard := 0 : QueueSlot }) ∧
    ((trying (withRecord 1 cueWaits) 0 0 cueSlot.frame).st.bus.heldMark = false) ∧
    ({ frame := cueSlot.frame, age := 4, errors := 0, unheard := 0 : QueueSlot }.frame = Frame.cue tuneKey 1504 600 8) ∧
    (Performances.slotOf (trying (withRecord 1 cueWaits) 0 0 cueSlot.frame).st.pf tuneKey = some 1) ∧
    (Station.record (trying (withRecord 1 cueWaits) 0 0 cueSlot.frame).st 1 = some cueWaits) ∧
    (cueWaits.frameState = FrameState.queued) := by decide

/-- The hypotheses of `Obligations.CompletedAttemptsAreReported`, clause 2.1.1. -/
theorem witness_unheard_cue_again :
    (State.settled (trying (withRecord 1 cueWaits) 0 1 cueSlot.frame)) ∧
    ((trying (withRecord 1 cueWaits) 0 1 cueSlot.frame).st.bus.current =
  some
    { capture := start,
      role := Role.sending { frame := cueSlot.frame, age := 4, errors := 0, unheard := 1 : QueueSlot }.age :
      FrameInProgress }) ∧
    (Bus.slotAt (trying (withRecord 1 cueWaits) 0 1 cueSlot.frame).st.bus
    { frame := cueSlot.frame, age := 4, errors := 0, unheard := 1 : QueueSlot }.age =
  some { frame := cueSlot.frame, age := 4, errors := 0, unheard := 1 : QueueSlot }) ∧
    ((trying (withRecord 1 cueWaits) 0 1 cueSlot.frame).st.bus.heldMark = false) ∧
    (Frame.oneHearing { frame := cueSlot.frame, age := 4, errors := 0, unheard := 1 : QueueSlot }.frame = false) ∧
    ({ frame := cueSlot.frame, age := 4, errors := 0, unheard := 1 : QueueSlot }.unheard + 1 < 3) := by decide

/-- The hypotheses of `Obligations.CompletedAttemptsAreReported`, clause 2.1.2.2.2.1. -/
theorem witness_unheard_answer :
    (State.settled (trying base 0 0 (Frame.answer 14 9 12 ReqOutcome.done [] false))) ∧
    ((trying base 0 0 (Frame.answer 14 9 12 ReqOutcome.done [] false)).st.bus.current =
  some
    { capture := start,
      role :=
        Role.sending
          { frame := Frame.answer 14 9 12 ReqOutcome.done [] false, age := 4, errors := 0, unheard := 0 :
              QueueSlot }.age :
      FrameInProgress }) ∧
    (Bus.slotAt (trying base 0 0 (Frame.answer 14 9 12 ReqOutcome.done [] false)).st.bus
    { frame := Frame.answer 14 9 12 ReqOutcome.done [] false, age := 4, errors := 0, unheard := 0 : QueueSlot }.age =
  some { frame := Frame.answer 14 9 12 ReqOutcome.done [] false, age := 4, errors := 0, unheard := 0 : QueueSlot }) ∧
    ((trying base 0 0 (Frame.answer 14 9 12 ReqOutcome.done [] false)).st.bus.heldMark = false) ∧
    (Frame.isReportless
    { frame := Frame.answer 14 9 12 ReqOutcome.done [] false, age := 4, errors := 0, unheard := 0 : QueueSlot }.frame =
  true) ∧
    (Frame.isPlain
    { frame := Frame.answer 14 9 12 ReqOutcome.done [] false, age := 4, errors := 0, unheard := 0 : QueueSlot }.frame =
  false) := by decide

/-- The hypotheses of `Obligations.CompletedAttemptsAreReported`, clause 2.1.2.2.2.2.1. -/
theorem witness_unheard_cue :
    (State.settled (trying (withRecord 1 cueWaits) 0 2 cueSlot.frame)) ∧
    ((trying (withRecord 1 cueWaits) 0 2 cueSlot.frame).st.bus.current =
  some
    { capture := start,
      role := Role.sending { frame := cueSlot.frame, age := 4, errors := 0, unheard := 2 : QueueSlot }.age :
      FrameInProgress }) ∧
    (Bus.slotAt (trying (withRecord 1 cueWaits) 0 2 cueSlot.frame).st.bus
    { frame := cueSlot.frame, age := 4, errors := 0, unheard := 2 : QueueSlot }.age =
  some { frame := cueSlot.frame, age := 4, errors := 0, unheard := 2 : QueueSlot }) ∧
    ((trying (withRecord 1 cueWaits) 0 2 cueSlot.frame).st.bus.heldMark = false) ∧
    (3 ≤ { frame := cueSlot.frame, age := 4, errors := 0, unheard := 2 : QueueSlot }.unheard + 1) ∧
    ({ frame := cueSlot.frame, age := 4, errors := 0, unheard := 2 : QueueSlot }.frame = Frame.cue tuneKey 1504 600 8) ∧
    (Performances.slotOf (trying (withRecord 1 cueWaits) 0 2 cueSlot.frame).st.pf tuneKey = some 1) ∧
    (Station.record (trying (withRecord 1 cueWaits) 0 2 cueSlot.frame).st 1 = some cueWaits) ∧
    (cueWaits.frameState = FrameState.queued) := by decide

/-- The hypotheses of `Obligations.CompletedAttemptsAreReported`, clause 2.1.2.2.2.2.2. -/
theorem witness_unheard_renewal :
    (State.settled (trying (drawing 0 10 base) 0 2 (Frame.draw 0 10 150 DrawPurpose.renewal))) ∧
    ((trying (drawing 0 10 base) 0 2 (Frame.draw 0 10 150 DrawPurpose.renewal)).st.bus.current =
  some
    { capture := start,
      role :=
        Role.sending
          { frame := Frame.draw 0 10 150 DrawPurpose.renewal, age := 4, errors := 0, unheard := 2 : QueueSlot }.age :
      FrameInProgress }) ∧
    (Bus.slotAt (trying (drawing 0 10 base) 0 2 (Frame.draw 0 10 150 DrawPurpose.renewal)).st.bus
    { frame := Frame.draw 0 10 150 DrawPurpose.renewal, age := 4, errors := 0, unheard := 2 : QueueSlot }.age =
  some { frame := Frame.draw 0 10 150 DrawPurpose.renewal, age := 4, errors := 0, unheard := 2 : QueueSlot }) ∧
    ((trying (drawing 0 10 base) 0 2 (Frame.draw 0 10 150 DrawPurpose.renewal)).st.bus.heldMark = false) ∧
    (3 ≤ { frame := Frame.draw 0 10 150 DrawPurpose.renewal, age := 4, errors := 0, unheard := 2 : QueueSlot }.unheard + 1) ∧
    ({ frame := Frame.draw 0 10 150 DrawPurpose.renewal, age := 4, errors := 0, unheard := 2 : QueueSlot }.frame =
  Frame.draw 0 10 150 DrawPurpose.renewal) ∧
    ((trying (drawing 0 10 base) 0 2 (Frame.draw 0 10 150 DrawPurpose.renewal)).st.sup.waiting = []) := by decide

/-- The hypotheses of `Obligations.CompletedAttemptsAreReported`, clause 2.2.1. -/
theorem witness_heard_renewal :
    (State.settled (refused 0 (trying (drawing 0 10 base) 0 2 (Frame.draw 0 10 150 DrawPurpose.renewal)))) ∧
    (Station.running (refused 0 (trying (drawing 0 10 base) 0 2 (Frame.draw 0 10 150 DrawPurpose.renewal))).st = true) ∧
    (Bus.mayQueue (refused 0 (trying (drawing 0 10 base) 0 2 (Frame.draw 0 10 150 DrawPurpose.renewal))).st.bus = true) ∧
    (Bus.agrees (refused 0 (trying (drawing 0 10 base) 0 2 (Frame.draw 0 10 150 DrawPurpose.renewal))).st.bus) ∧
    ((refused 0 (trying (drawing 0 10 base) 0 2 (Frame.draw 0 10 150 DrawPurpose.renewal))).st.bus.current =
  some
    { capture := start,
      role :=
        Role.sending
          { frame := Frame.draw 0 10 150 DrawPurpose.renewal, age := 4, errors := 0, unheard := 2 : QueueSlot }.age :
      FrameInProgress }) ∧
    (Bus.slotAt (refused 0 (trying (drawing 0 10 base) 0 2 (Frame.draw 0 10 150 DrawPurpose.renewal))).st.bus
    { frame := Frame.draw 0 10 150 DrawPurpose.renewal, age := 4, errors := 0, unheard := 2 : QueueSlot }.age =
  some { frame := Frame.draw 0 10 150 DrawPurpose.renewal, age := 4, errors := 0, unheard := 2 : QueueSlot }) ∧
    ((refused 0 (trying (drawing 0 10 base) 0 2 (Frame.draw 0 10 150 DrawPurpose.renewal))).st.bus.heldMark = false) ∧
    ({ frame := Frame.draw 0 10 150 DrawPurpose.renewal, age := 4, errors := 0, unheard := 2 : QueueSlot }.frame =
  Frame.draw 0 10 150 DrawPurpose.renewal) ∧
    ((refused 0 (trying (drawing 0 10 base) 0 2 (Frame.draw 0 10 150 DrawPurpose.renewal))).st.sup.waiting = []) ∧
    (DrawPurpose.renewal = DrawPurpose.renewal ∨ DrawPurpose.renewal = DrawPurpose.decrease) := by decide

/-- The hypotheses of `Obligations.CompletedAttemptsAreReported`, clause 2.2.1. -/
theorem witness_heard_decrease :
    (State.settled (trying (drawing 0 10 base) 0 0 (Frame.draw 0 10 150 DrawPurpose.decrease))) ∧
    (Station.running (trying (drawing 0 10 base) 0 0 (Frame.draw 0 10 150 DrawPurpose.decrease)).st = true) ∧
    (Bus.mayQueue (trying (drawing 0 10 base) 0 0 (Frame.draw 0 10 150 DrawPurpose.decrease)).st.bus = true) ∧
    (Bus.agrees (trying (drawing 0 10 base) 0 0 (Frame.draw 0 10 150 DrawPurpose.decrease)).st.bus) ∧
    ((trying (drawing 0 10 base) 0 0 (Frame.draw 0 10 150 DrawPurpose.decrease)).st.bus.current =
  some
    { capture := start,
      role :=
        Role.sending
          { frame := Frame.draw 0 10 150 DrawPurpose.decrease, age := 4, errors := 0, unheard := 0 : QueueSlot }.age :
      FrameInProgress }) ∧
    (Bus.slotAt (trying (drawing 0 10 base) 0 0 (Frame.draw 0 10 150 DrawPurpose.decrease)).st.bus
    { frame := Frame.draw 0 10 150 DrawPurpose.decrease, age := 4, errors := 0, unheard := 0 : QueueSlot }.age =
  some { frame := Frame.draw 0 10 150 DrawPurpose.decrease, age := 4, errors := 0, unheard := 0 : QueueSlot }) ∧
    ((trying (drawing 0 10 base) 0 0 (Frame.draw 0 10 150 DrawPurpose.decrease)).st.bus.heldMark = false) ∧
    ({ frame := Frame.draw 0 10 150 DrawPurpose.decrease, age := 4, errors := 0, unheard := 0 : QueueSlot }.frame =
  Frame.draw 0 10 150 DrawPurpose.decrease) ∧
    ((trying (drawing 0 10 base) 0 0 (Frame.draw 0 10 150 DrawPurpose.decrease)).st.sup.waiting = []) ∧
    (DrawPurpose.decrease = DrawPurpose.renewal ∨ DrawPurpose.decrease = DrawPurpose.decrease) := by decide

/-- The hypotheses of `Obligations.CompletedAttemptsAreReported`, clause 2.2.2. -/
theorem witness_given_up_completes :
    (State.settled (refused 0 (trying base 0 0 (Frame.draw 0 10 150 DrawPurpose.freed)))) ∧
    (Station.running (refused 0 (trying base 0 0 (Frame.draw 0 10 150 DrawPurpose.freed))).st = true) ∧
    (Bus.mayQueue (refused 0 (trying base 0 0 (Frame.draw 0 10 150 DrawPurpose.freed))).st.bus = true) ∧
    (Bus.agrees (refused 0 (trying base 0 0 (Frame.draw 0 10 150 DrawPurpose.freed))).st.bus) ∧
    ((refused 0 (trying base 0 0 (Frame.draw 0 10 150 DrawPurpose.freed))).st.bus.current =
  some
    { capture := start,
      role :=
        Role.sending
          { frame := Frame.draw 0 10 150 DrawPurpose.freed, age := 4, errors := 0, unheard := 0 : QueueSlot }.age :
      FrameInProgress }) ∧
    (Bus.slotAt (refused 0 (trying base 0 0 (Frame.draw 0 10 150 DrawPurpose.freed))).st.bus
    { frame := Frame.draw 0 10 150 DrawPurpose.freed, age := 4, errors := 0, unheard := 0 : QueueSlot }.age =
  some { frame := Frame.draw 0 10 150 DrawPurpose.freed, age := 4, errors := 0, unheard := 0 : QueueSlot }) ∧
    ((refused 0 (trying base 0 0 (Frame.draw 0 10 150 DrawPurpose.freed))).st.bus.heldMark = false) ∧
    ({ frame := Frame.draw 0 10 150 DrawPurpose.freed, age := 4, errors := 0, unheard := 0 : QueueSlot }.frame =
  Frame.draw 0 10 150 DrawPurpose.freed) ∧
    ((refused 0 (trying base 0 0 (Frame.draw 0 10 150 DrawPurpose.freed))).st.sup.waiting = []) ∧
    (DrawPurpose.freed = DrawPurpose.freed) ∧
    (List.length
    (List.filter
      (fun o =>
        decide
          (o.age ≠
            { frame := Frame.draw 0 10 150 DrawPurpose.freed, age := 4, errors := 0, unheard := 0 : QueueSlot }.age))
      (refused 0 (trying base 0 0 (Frame.draw 0 10 150 DrawPurpose.freed))).st.bus.queue) <
  8) := by decide

/-- The hypotheses of `Obligations.StartBitBeginsAFrame`, clause 1.2. -/
theorem witness_reads_in_guarded_wait :
    (State.settled guardedWaits) ∧
    (Station.inService guardedWaits.st = true) ∧
    (guardedWaits.st.bus.current = none) ∧
    ((match guardedWaits.st.bus.wait with
  | LineWait.joining => 12
  | LineWait.afterFrame => 0
  | LineWait.gaveUp => 10) ≤
  10) := by decide

/-- The hypotheses of `Obligations.StartBitBeginsAFrame`, clause 1.2. -/
theorem witness_reads_after_guarded_wait :
    (State.settled guardedWaits) ∧
    (Station.inService guardedWaits.st = true) ∧
    (guardedWaits.st.bus.current = none) ∧
    ((match guardedWaits.st.bus.wait with
  | LineWait.joining => 12
  | LineWait.afterFrame => 0
  | LineWait.gaveUp => 10) ≤
  11) := by decide

/-- The hypotheses of `Obligations.CivilBoundariesAreTaken`, clause 2.2.2.2.2.2.2.2.1.1.1. -/
theorem witness_offset_aborts :
    (State.settled (jumps (record tuneKey PerfState.cued 60000000 true))) ∧
    ((jumps (record tuneKey PerfState.cued 60000000 true)).st.tb.minuteDue =
  some { civilDay := 9000, civilMinute := 600, towerDay := 9000, towerMinute := 600 : MinuteEvent }) ∧
    ((jumps (record tuneKey PerfState.cued 60000000 true)).st.pg.calendar =
  some
      {
        entry :=
          { selector := Selector.weekly 127,
            work :=
              CalendarWork.offset
                { civilDay := 9000, civilMinute := 600, towerDay := 9000, towerMinute := 600 : MinuteEvent }.towerMinute
                180 :
            CalendarEntry },
        fired := [none] : CalendarSlot } ::
    List.replicate 95 none) ∧
    (Selector.selects (Selector.weekly 127)
    { civilDay := 9000, civilMinute := 600, towerDay := 9000, towerMinute := 600 : MinuteEvent }.towerDay =
  true) ∧
    (firedAllows none (jumps (record tuneKey PerfState.cued 60000000 true)).st.tb.run
    { civilDay := 9000, civilMinute := 600, towerDay := 9000, towerMinute := 600 : MinuteEvent }.civilMinute =
  true) ∧
    (Station.running (jumps (record tuneKey PerfState.cued 60000000 true)).st = true) ∧
    ((jumps (record tuneKey PerfState.cued 60000000 true)).st.tb.valid = true) ∧
    (Station.unfitted (jumps (record tuneKey PerfState.cued 60000000 true)).st) ∧
    (180 ≠ (jumps (record tuneKey PerfState.cued 60000000 true)).st.tb.offset) ∧
    ((jumps (record tuneKey PerfState.cued 60000000 true)).st.cfg.hourBell = none) ∧
    (1 < 6) ∧
    ((jumps (record tuneKey PerfState.cued 60000000 true)).st.pf.table =
  List.set (List.replicate 6 none) 1 (some (record tuneKey PerfState.cued 60000000 true))) ∧
    ((record tuneKey PerfState.cued 60000000 true).key.cls = PerfClass.tune ∨
  (record tuneKey PerfState.cued 60000000 true).key.cls = PerfClass.quarter) ∧
    ((record tuneKey PerfState.cued 60000000 true).state = PerfState.cued ∨
  (record tuneKey PerfState.cued 60000000 true).state = PerfState.playing) ∧
    (∀ (m : BellMark), m ∈ (record tuneKey PerfState.cued 60000000 true).marks → BellMark.holds m = false) ∧
    ((record tuneKey PerfState.cued 60000000 true).frameState ≠ FrameState.queued) := by decide

/-- The hypotheses of `Obligations.CivilBoundariesAreTaken`, clause 2.2.2.2.2.2.2.2.1.1.2. -/
theorem witness_offset_tolls :
    (State.settled (jumps (toll PerfState.playing 500000 3))) ∧
    ((jumps (toll PerfState.playing 500000 3)).st.tb.minuteDue =
  some { civilDay := 9000, civilMinute := 600, towerDay := 9000, towerMinute := 600 : MinuteEvent }) ∧
    ((jumps (toll PerfState.playing 500000 3)).st.pg.calendar =
  some
      {
        entry :=
          { selector := Selector.weekly 127,
            work :=
              CalendarWork.offset
                { civilDay := 9000, civilMinute := 600, towerDay := 9000, towerMinute := 600 : MinuteEvent }.towerMinute
                180 :
            CalendarEntry },
        fired := [none] : CalendarSlot } ::
    List.replicate 95 none) ∧
    (Selector.selects (Selector.weekly 127)
    { civilDay := 9000, civilMinute := 600, towerDay := 9000, towerMinute := 600 : MinuteEvent }.towerDay =
  true) ∧
    (firedAllows none (jumps (toll PerfState.playing 500000 3)).st.tb.run
    { civilDay := 9000, civilMinute := 600, towerDay := 9000, towerMinute := 600 : MinuteEvent }.civilMinute =
  true) ∧
    (Station.running (jumps (toll PerfState.playing 500000 3)).st = true) ∧
    ((jumps (toll PerfState.playing 500000 3)).st.tb.valid = true) ∧
    (Station.unfitted (jumps (toll PerfState.playing 500000 3)).st) ∧
    (180 ≠ (jumps (toll PerfState.playing 500000 3)).st.tb.offset) ∧
    ((jumps (toll PerfState.playing 500000 3)).st.cfg.hourBell = none) ∧
    (1 < 6) ∧
    ((jumps (toll PerfState.playing 500000 3)).st.pf.table =
  List.set (List.replicate 6 none) 1 (some (toll PerfState.playing 500000 3))) ∧
    ((toll PerfState.playing 500000 3).key.cls = PerfClass.toll) ∧
    ((toll PerfState.playing 500000 3).hasPart = true) ∧
    ((toll PerfState.playing 500000 3).state = PerfState.playing ∨ (toll PerfState.playing 500000 3).state = PerfState.cued) ∧
    ((toll PerfState.playing 500000 3).entriesOut = 0) ∧
    (2000 ≤ (toll PerfState.playing 500000 3).beat) ∧
    ((toll PerfState.playing 500000 3).beat ≤ 60000) ∧
    (∀ (k : ChannelConfig), k ∈ (jumps (toll PerfState.playing 500000 3)).st.cfg.channels → k.lead ≤ 400) ∧
    (TimeBase.inRange (jumps (toll PerfState.playing 500000 3)).st.tb) := by decide

/-- The hypotheses of `Obligations.CivilBoundariesAreTaken`, clause 2.2.2.2.2.2.2.2.1.1.2. -/
theorem witness_offset_tolls2 :
    (State.settled (jumps (toll PerfState.cued 60000000 0))) ∧
    ((jumps (toll PerfState.cued 60000000 0)).st.tb.minuteDue =
  some { civilDay := 9000, civilMinute := 600, towerDay := 9000, towerMinute := 600 : MinuteEvent }) ∧
    ((jumps (toll PerfState.cued 60000000 0)).st.pg.calendar =
  some
      {
        entry :=
          { selector := Selector.weekly 127,
            work :=
              CalendarWork.offset
                { civilDay := 9000, civilMinute := 600, towerDay := 9000, towerMinute := 600 : MinuteEvent }.towerMinute
                180 :
            CalendarEntry },
        fired := [none] : CalendarSlot } ::
    List.replicate 95 none) ∧
    (Selector.selects (Selector.weekly 127)
    { civilDay := 9000, civilMinute := 600, towerDay := 9000, towerMinute := 600 : MinuteEvent }.towerDay =
  true) ∧
    (firedAllows none (jumps (toll PerfState.cued 60000000 0)).st.tb.run
    { civilDay := 9000, civilMinute := 600, towerDay := 9000, towerMinute := 600 : MinuteEvent }.civilMinute =
  true) ∧
    (Station.running (jumps (toll PerfState.cued 60000000 0)).st = true) ∧
    ((jumps (toll PerfState.cued 60000000 0)).st.tb.valid = true) ∧
    (Station.unfitted (jumps (toll PerfState.cued 60000000 0)).st) ∧
    (180 ≠ (jumps (toll PerfState.cued 60000000 0)).st.tb.offset) ∧
    ((jumps (toll PerfState.cued 60000000 0)).st.cfg.hourBell = none) ∧
    (1 < 6) ∧
    ((jumps (toll PerfState.cued 60000000 0)).st.pf.table =
  List.set (List.replicate 6 none) 1 (some (toll PerfState.cued 60000000 0))) ∧
    ((toll PerfState.cued 60000000 0).key.cls = PerfClass.toll) ∧
    ((toll PerfState.cued 60000000 0).hasPart = true) ∧
    ((toll PerfState.cued 60000000 0).state = PerfState.playing ∨ (toll PerfState.cued 60000000 0).state = PerfState.cued) ∧
    ((toll PerfState.cued 60000000 0).entriesOut = 0) ∧
    (2000 ≤ (toll PerfState.cued 60000000 0).beat) ∧
    ((toll PerfState.cued 60000000 0).beat ≤ 60000) ∧
    (∀ (k : ChannelConfig), k ∈ (jumps (toll PerfState.cued 60000000 0)).st.cfg.channels → k.lead ≤ 400) ∧
    (TimeBase.inRange (jumps (toll PerfState.cued 60000000 0)).st.tb) := by decide

/-- The hypotheses of `Obligations.CivilBoundariesAreTaken`, clause 2.2.2.2.2.2.2.2.1.2. -/
theorem witness_offset_makes_hour :
    (State.settled hourJumps) ∧
    (hourJumps.st.tb.minuteDue =
  some { civilDay := 9000, civilMinute := 600, towerDay := 9000, towerMinute := 600 : MinuteEvent }) ∧
    (hourJumps.st.pg.calendar =
  some
      {
        entry :=
          { selector := Selector.weekly 127,
            work :=
              CalendarWork.offset
                { civilDay := 9000, civilMinute := 600, towerDay := 9000, towerMinute := 600 : MinuteEvent }.towerMinute
                180 :
            CalendarEntry },
        fired := [none] : CalendarSlot } ::
    List.replicate 95 none) ∧
    (Selector.selects (Selector.weekly 127)
    { civilDay := 9000, civilMinute := 600, towerDay := 9000, towerMinute := 600 : MinuteEvent }.towerDay =
  true) ∧
    (firedAllows none hourJumps.st.tb.run
    { civilDay := 9000, civilMinute := 600, towerDay := 9000, towerMinute := 600 : MinuteEvent }.civilMinute =
  true) ∧
    (Station.running hourJumps.st = true) ∧
    (hourJumps.st.tb.valid = true) ∧
    (Station.unfitted hourJumps.st) ∧
    (180 ≠ hourJumps.st.tb.offset) ∧
    (hourJumps.st.cfg.hourBell = some 1) ∧
    (StationBlock.isOwn hourJumps.st.cfg 1 = true) ∧
    (hourJumps.st.pf.silenced = false) ∧
    (hourJumps.st.pf.table = List.replicate 6 none) ∧
    (∀ (t : RunTime), t ∈ hourJumps.st.pf.lastHour → 3000 * 32768 ≤ RunTime.elapsed t hourJumps.st.tb.run) ∧
    (hourJumps.st.tb.offset < 180) ∧
    ((TowerTime.civil (TimeBase.now hourJumps.st.tb) 180).us -
    (TowerTime.civil (TimeBase.now hourJumps.st.tb) 180).us / 3600000000 * 3600000000 <
  (180 - hourJumps.st.tb.offset) * 60000000) ∧
    ((TowerTime.civil (TimeBase.now hourJumps.st.tb) 180).us -
    (TowerTime.civil (TimeBase.now hourJumps.st.tb) 180).us / 3600000000 * 3600000000 ≤
  300000000) ∧
    (∀ (k : RecentKey),
  k ∈ hourJumps.st.pf.recent →
    k.key ≠
        { cls := PerfClass.hour, number := 0, quarter := 0,
          day :=
            (TowerTime.plus
                { day := (TowerTime.civil (TimeBase.now hourJumps.st.tb) 180).day,
                  us := (TowerTime.civil (TimeBase.now hourJumps.st.tb) 180).us / 3600000000 * 3600000000 : TowerTime }
                (-(↑(180 * 60000000) : Int))).day,
          minute :=
            (TowerTime.plus
                  { day := (TowerTime.civil (TimeBase.now hourJumps.st.tb) 180).day,
                    us := (TowerTime.civil (TimeBase.now hourJumps.st.tb) 180).us / 3600000000 * 3600000000 :
                    TowerTime }
                  (-(↑(180 * 60000000) : Int))).us /
              60000000 :
          Key } ∧
      Key.isHourChime k.key
          (TowerTime.plus
              { day := (TowerTime.civil (TimeBase.now hourJumps.st.tb) 180).day,
                us := (TowerTime.civil (TimeBase.now hourJumps.st.tb) 180).us / 3600000000 * 3600000000 : TowerTime }
              (-(↑(180 * 60000000) : Int))).day
          ((TowerTime.plus
                { day := (TowerTime.civil (TimeBase.now hourJumps.st.tb) 180).day,
                  us := (TowerTime.civil (TimeBase.now hourJumps.st.tb) 180).us / 3600000000 * 3600000000 : TowerTime }
                (-(↑(180 * 60000000) : Int))).us /
            60000000) =
        false) := by decide

/-- The hypotheses of `Obligations.MarksFillThePeerTable`, clause 2.2.1.1. -/
theorem witness_mark_no_rate :
    (State.settled (followsSince 744)) ∧
    (Station.running (followsSince 744).st = true) ∧
    (Station.Hears (followsSince 744).st 14 start) ∧
    (14 < 15) ∧
    (List.length (markAt 6400 176) = 9) ∧
    ((followsSince 744).st.ag.refState ≠ RefState.locked) ∧
    ((followsSince 744).st.tb.valid = true) ∧
    ((followsSince 744).st.ag.followed = some 14) ∧
    (∀ (p : Option Peer), p ∈ List.set (followsSince 744).st.ag.peers 14 none → p = none) ∧
    (List.length (followsSince 744).st.ag.peers = 15) ∧
    ((followsSince 744).st.ag.prevMark =
  some { source := Source.station 14, run := { sec := 744, cyc := 0 : RunTime }, tau := some 8 : PrevMark }) ∧
    ({ source := Source.station 14, run := { sec := 744, cyc := 0 : RunTime }, tau := some 8 : PrevMark }.source =
  Source.station 14) ∧
    (bitOf (byteAt (markAt 6400 176) 7) 4 = true) ∧
    (byteAt (markAt 6400 176) 7 / 32 < 6) ∧
    (byteAt (markAt 6400 176) 8 ≠ (followsSince 744).st.cfg.number) ∧
    ((followsSince 744).st.cfg.number < 15) ∧
    (6400 =
  TowerTime.diff { day := word16 (markAt 6400 176) 0, us := word40 (markAt 6400 176) 2 : TowerTime }
    { day := start.day, us := start.us : TowerTime }) ∧
    (-2000000 < 6400) ∧
    (6400 < 2000000) ∧
    ((RunTime.elapsed
          { source := Source.station 14, run := { sec := 744, cyc := 0 : RunTime }, tau := some 8 : PrevMark }.run
          start.run +
        16384) /
      32768 =
    0 ∨
  255 <
      (RunTime.elapsed
            { source := Source.station 14, run := { sec := 744, cyc := 0 : RunTime }, tau := some 8 : PrevMark }.run
            start.run +
          16384) /
        32768 ∨
    bitOf (byteAt (markAt 6400 176) 7) 3 = true) := by decide

/-- The hypotheses of `Obligations.MarksFillThePeerTable`, clause 2.2.1.1. -/
theorem witness_mark_no_rate2 :
    (State.settled (followsSince 992)) ∧
    (Station.running (followsSince 992).st = true) ∧
    (Station.Hears (followsSince 992).st 14 start) ∧
    (14 < 15) ∧
    (List.length (markAt 6400 184) = 9) ∧
    ((followsSince 992).st.ag.refState ≠ RefState.locked) ∧
    ((followsSince 992).st.tb.valid = true) ∧
    ((followsSince 992).st.ag.followed = some 14) ∧
    (∀ (p : Option Peer), p ∈ List.set (followsSince 992).st.ag.peers 14 none → p = none) ∧
    (List.length (followsSince 992).st.ag.peers = 15) ∧
    ((followsSince 992).st.ag.prevMark =
  some { source := Source.station 14, run := { sec := 992, cyc := 0 : RunTime }, tau := some 8 : PrevMark }) ∧
    ({ source := Source.station 14, run := { sec := 992, cyc := 0 : RunTime }, tau := some 8 : PrevMark }.source =
  Source.station 14) ∧
    (bitOf (byteAt (markAt 6400 184) 7) 4 = true) ∧
    (byteAt (markAt 6400 184) 7 / 32 < 6) ∧
    (byteAt (markAt 6400 184) 8 ≠ (followsSince 992).st.cfg.number) ∧
    ((followsSince 992).st.cfg.number < 15) ∧
    (6400 =
  TowerTime.diff { day := word16 (markAt 6400 184) 0, us := word40 (markAt 6400 184) 2 : TowerTime }
    { day := start.day, us := start.us : TowerTime }) ∧
    (-2000000 < 6400) ∧
    (6400 < 2000000) ∧
    ((RunTime.elapsed
          { source := Source.station 14, run := { sec := 992, cyc := 0 : RunTime }, tau := some 8 : PrevMark }.run
          start.run +
        16384) /
      32768 =
    0 ∨
  255 <
      (RunTime.elapsed
            { source := Source.station 14, run := { sec := 992, cyc := 0 : RunTime }, tau := some 8 : PrevMark }.run
            start.run +
          16384) /
        32768 ∨
    bitOf (byteAt (markAt 6400 184) 7) 3 = true) := by decide

/-- The hypotheses of `Obligations.MarksFillThePeerTable`, clause 2.2.1.2. -/
theorem witness_mark_rates :
    (State.settled (followsSince 992)) ∧
    (Station.running (followsSince 992).st = true) ∧
    (Station.Hears (followsSince 992).st 14 start) ∧
    (14 < 15) ∧
    (List.length (markAt 6400 176) = 9) ∧
    ((followsSince 992).st.ag.refState ≠ RefState.locked) ∧
    ((followsSince 992).st.tb.valid = true) ∧
    ((followsSince 992).st.ag.followed = some 14) ∧
    (∀ (p : Option Peer), p ∈ List.set (followsSince 992).st.ag.peers 14 none → p = none) ∧
    (List.length (followsSince 992).st.ag.peers = 15) ∧
    ((followsSince 992).st.ag.prevMark =
  some { source := Source.station 14, run := { sec := 992, cyc := 0 : RunTime }, tau := some 8 : PrevMark }) ∧
    ({ source := Source.station 14, run := { sec := 992, cyc := 0 : RunTime }, tau := some 8 : PrevMark }.source =
  Source.station 14) ∧
    (bitOf (byteAt (markAt 6400 176) 7) 4 = true) ∧
    (byteAt (markAt 6400 176) 7 / 32 < 6) ∧
    (byteAt (markAt 6400 176) 8 ≠ (followsSince 992).st.cfg.number) ∧
    ((followsSince 992).st.cfg.number < 15) ∧
    (6400 =
  TowerTime.diff { day := word16 (markAt 6400 176) 0, us := word40 (markAt 6400 176) 2 : TowerTime }
    { day := start.day, us := start.us : TowerTime }) ∧
    (-2000000 < 6400) ∧
    (6400 < 2000000) ∧
    (1 ≤
  (RunTime.elapsed
        { source := Source.station 14, run := { sec := 992, cyc := 0 : RunTime }, tau := some 8 : PrevMark }.run
        start.run +
      16384) /
    32768) ∧
    ((RunTime.elapsed
        { source := Source.station 14, run := { sec := 992, cyc := 0 : RunTime }, tau := some 8 : PrevMark }.run
        start.run +
      16384) /
    32768 ≤
  255) ∧
    (bitOf (byteAt (markAt 6400 176) 7) 3 = false) ∧
    (-200000 ≤
  (followsSince 992).st.tb.rate +
    Int.tdiv
      (6400 * 250 +
        if
            { source := Source.station 14, run := { sec := 992, cyc := 0 : RunTime }, tau := some 8 : PrevMark }.tau =
              some
                ((RunTime.elapsed
                      { source := Source.station 14, run := { sec := 992, cyc := 0 : RunTime }, tau := some 8 :
                          PrevMark }.run
                      start.run +
                    16384) /
                  32768) then
          (followsSince 992).st.ag.rateRem
        else 0)
      (↑((RunTime.elapsed
                { source := Source.station 14, run := { sec := 992, cyc := 0 : RunTime }, tau := some 8 : PrevMark }.run
                start.run +
              16384) /
            32768) :
        Int)) ∧
    ((followsSince 992).st.tb.rate +
    Int.tdiv
      (6400 * 250 +
        if
            { source := Source.station 14, run := { sec := 992, cyc := 0 : RunTime }, tau := some 8 : PrevMark }.tau =
              some
                ((RunTime.elapsed
                      { source := Source.station 14, run := { sec := 992, cyc := 0 : RunTime }, tau := some 8 :
                          PrevMark }.run
                      start.run +
                    16384) /
                  32768) then
          (followsSince 992).st.ag.rateRem
        else 0)
      (↑((RunTime.elapsed
                { source := Source.station 14, run := { sec := 992, cyc := 0 : RunTime }, tau := some 8 : PrevMark }.run
                start.run +
              16384) /
            32768) :
        Int) ≤
  200000) := by decide

/-- The hypotheses of `Obligations.MarksFillThePeerTable`, clause 2.2.2.1. -/
theorem witness_mark_steps :
    (State.settled (followsSince 992)) ∧
    (Station.running (followsSince 992).st = true) ∧
    (Station.Hears (followsSince 992).st 14 start) ∧
    (14 < 15) ∧
    (List.length (markAt 2000000 176) = 9) ∧
    ((followsSince 992).st.ag.refState ≠ RefState.locked) ∧
    ((followsSince 992).st.tb.valid = true) ∧
    ((followsSince 992).st.ag.followed = some 14) ∧
    (∀ (p : Option Peer), p ∈ List.set (followsSince 992).st.ag.peers 14 none → p = none) ∧
    (List.length (followsSince 992).st.ag.peers = 15) ∧
    (bitOf (byteAt (markAt 2000000 176) 7) 4 = true) ∧
    (byteAt (markAt 2000000 176) 7 / 32 < 6) ∧
    (byteAt (markAt 2000000 176) 8 ≠ (followsSince 992).st.cfg.number) ∧
    ((followsSince 992).st.cfg.number < 15) ∧
    (2000000 =
  TowerTime.diff { day := word16 (markAt 2000000 176) 0, us := word40 (markAt 2000000 176) 2 : TowerTime }
    { day := start.day, us := start.us : TowerTime }) ∧
    (2000000 ≤ -2000000 ∨ 2000000 ≤ 2000000) := by decide

/-- The hypotheses of `Obligations.MarksFillThePeerTable`, clause 2.2.2.2.1. -/
theorem witness_mark_acquires :
    (State.settled (listensTo false)) ∧
    ((listensTo false).st.seq.state = RunState.listening) ∧
    (Station.Hears (listensTo false).st 14 start) ∧
    (14 < 15) ∧
    (List.length (markAt 6400 176) = 9) ∧
    ((listensTo false).st.ag.refState ≠ RefState.locked) ∧
    (∀ (p : Option Peer), p ∈ List.set (listensTo false).st.ag.peers 14 none → p = none) ∧
    (List.length (listensTo false).st.ag.peers = 15) ∧
    (bitOf (byteAt (markAt 6400 176) 7) 4 = true) ∧
    (byteAt (markAt 6400 176) 7 / 32 < 6) ∧
    (byteAt (markAt 6400 176) 8 ≠ (listensTo false).st.cfg.number) ∧
    ((listensTo false).st.cfg.number < 15) ∧
    (6400 =
  TowerTime.diff { day := word16 (markAt 6400 176) 0, us := word40 (markAt 6400 176) 2 : TowerTime }
    { day := start.day, us := start.us : TowerTime }) := by decide

/-- The hypotheses of `Obligations.MarksFillThePeerTable`, clause 2.2.2.2.1. -/
theorem witness_mark_acquires2 :
    (State.settled (listensTo true)) ∧
    ((listensTo true).st.seq.state = RunState.listening) ∧
    (Station.Hears (listensTo true).st 14 start) ∧
    (14 < 15) ∧
    (List.length (markAt 1999999 176) = 9) ∧
    ((listensTo true).st.ag.refState ≠ RefState.locked) ∧
    (∀ (p : Option Peer), p ∈ List.set (listensTo true).st.ag.peers 14 none → p = none) ∧
    (List.length (listensTo true).st.ag.peers = 15) ∧
    (bitOf (byteAt (markAt 1999999 176) 7) 4 = true) ∧
    (byteAt (markAt 1999999 176) 7 / 32 < 6) ∧
    (byteAt (markAt 1999999 176) 8 ≠ (listensTo true).st.cfg.number) ∧
    ((listensTo true).st.cfg.number < 15) ∧
    (1999999 =
  TowerTime.diff { day := word16 (markAt 1999999 176) 0, us := word40 (markAt 1999999 176) 2 : TowerTime }
    { day := start.day, us := start.us : TowerTime }) := by decide

/-- The hypotheses of `Obligations.ReferenceMinutesAreTaken`, clause 2.2.2.1.1. -/
theorem witness_minute_let_go :
    (State.settled (lockedSince 597)) ∧
    (Station.running (lockedSince 597).st = true) ∧
    ((lockedSince 597).st.tb.valid = true) ∧
    ((lockedSince 597).st.ag.refState = RefState.locked) ∧
    ((lockedSince 597).st.ag.message = some tenMessage) ∧
    ((lockedSince 597).st.ag.lastMinute =
  some { day := 9000, minute := 597, run := { sec := 940, cyc := 427 : RunTime } : RefMinute }) ∧
    (200 * 32768 ≤ RunTime.elapsed tenMessage.ended (lockedSince 597).st.tb.run * 1000) ∧
    (RunTime.elapsed tenMessage.ended (lockedSince 597).st.tb.run * 1000 ≤ 900 * 32768) ∧
    (¬(TowerTime.diff (TowerTime.ofMinute tenMessage.day tenMessage.minute)
          (TowerTime.ofMinute
            { day := 9000, minute := 597, run := { sec := 940, cyc := 427 : RunTime } : RefMinute }.day
            { day := 9000, minute := 597, run := { sec := 940, cyc := 427 : RunTime } : RefMinute }.minute) =
        60000000 ∧
      1966080 ≤
          RunTime.elapsed { day := 9000, minute := 597, run := { sec := 940, cyc := 427 : RunTime } : RefMinute }.run
              (lockedSince 597).st.tb.run +
            327 ∧
        RunTime.elapsed { day := 9000, minute := 597, run := { sec := 940, cyc := 427 : RunTime } : RefMinute }.run
            (lockedSince 597).st.tb.run ≤
          1966080 + 327 ∨
    TowerTime.diff (TowerTime.ofMinute tenMessage.day tenMessage.minute)
          (TowerTime.ofMinute
            { day := 9000, minute := 597, run := { sec := 940, cyc := 427 : RunTime } : RefMinute }.day
            { day := 9000, minute := 597, run := { sec := 940, cyc := 427 : RunTime } : RefMinute }.minute) =
        120000000 ∧
      2 * 1966080 ≤
          RunTime.elapsed { day := 9000, minute := 597, run := { sec := 940, cyc := 427 : RunTime } : RefMinute }.run
              (lockedSince 597).st.tb.run +
            327 ∧
        RunTime.elapsed { day := 9000, minute := 597, run := { sec := 940, cyc := 427 : RunTime } : RefMinute }.run
            (lockedSince 597).st.tb.run ≤
          2 * 1966080 + 327)) := by decide

/-- The hypotheses of `Obligations.ReferenceMinutesAreTaken`, clause 2.2.2.1.2. -/
theorem witness_minute_accepted :
    (State.settled (lockedSince 599)) ∧
    (Station.running (lockedSince 599).st = true) ∧
    ((lockedSince 599).st.tb.valid = true) ∧
    ((lockedSince 599).st.ag.refState = RefState.locked) ∧
    ((lockedSince 599).st.ag.message = some tenMessage) ∧
    ((lockedSince 599).st.ag.lastMinute =
  some { day := 9000, minute := 599, run := { sec := 940, cyc := 427 : RunTime } : RefMinute }) ∧
    (200 * 32768 ≤ RunTime.elapsed tenMessage.ended (lockedSince 599).st.tb.run * 1000) ∧
    (RunTime.elapsed tenMessage.ended (lockedSince 599).st.tb.run * 1000 ≤ 900 * 32768) ∧
    (TowerTime.diff (TowerTime.ofMinute tenMessage.day tenMessage.minute)
        (TowerTime.ofMinute { day := 9000, minute := 599, run := { sec := 940, cyc := 427 : RunTime } : RefMinute }.day
          { day := 9000, minute := 599, run := { sec := 940, cyc := 427 : RunTime } : RefMinute }.minute) =
      60000000 ∧
    1966080 ≤
        RunTime.elapsed { day := 9000, minute := 599, run := { sec := 940, cyc := 427 : RunTime } : RefMinute }.run
            (lockedSince 599).st.tb.run +
          327 ∧
      RunTime.elapsed { day := 9000, minute := 599, run := { sec := 940, cyc := 427 : RunTime } : RefMinute }.run
          (lockedSince 599).st.tb.run ≤
        1966080 + 327 ∨
  TowerTime.diff (TowerTime.ofMinute tenMessage.day tenMessage.minute)
        (TowerTime.ofMinute { day := 9000, minute := 599, run := { sec := 940, cyc := 427 : RunTime } : RefMinute }.day
          { day := 9000, minute := 599, run := { sec := 940, cyc := 427 : RunTime } : RefMinute }.minute) =
      120000000 ∧
    2 * 1966080 ≤
        RunTime.elapsed { day := 9000, minute := 599, run := { sec := 940, cyc := 427 : RunTime } : RefMinute }.run
            (lockedSince 599).st.tb.run +
          327 ∧
      RunTime.elapsed { day := 9000, minute := 599, run := { sec := 940, cyc := 427 : RunTime } : RefMinute }.run
          (lockedSince 599).st.tb.run ≤
        2 * 1966080 + 327) ∧
    (-2000000 < TowerTime.diff (TowerTime.ofMinute tenMessage.day tenMessage.minute) (TimeBase.now (lockedSince 599).st.tb)) ∧
    (TowerTime.diff (TowerTime.ofMinute tenMessage.day tenMessage.minute) (TimeBase.now (lockedSince 599).st.tb) < 2000000) ∧
    ((lockedSince 599).st.ag.prevMark =
  some { source := Source.reference, run := { sec := 940, cyc := 427 : RunTime }, tau := some 60 : PrevMark }) ∧
    ({ source := Source.reference, run := { sec := 940, cyc := 427 : RunTime }, tau := some 60 : PrevMark }.source =
  Source.reference) ∧
    (1 ≤
  (RunTime.elapsed
        { source := Source.reference, run := { sec := 940, cyc := 427 : RunTime }, tau := some 60 : PrevMark }.run
        (lockedSince 599).st.tb.run +
      16384) /
    32768) ∧
    ((RunTime.elapsed
        { source := Source.reference, run := { sec := 940, cyc := 427 : RunTime }, tau := some 60 : PrevMark }.run
        (lockedSince 599).st.tb.run +
      16384) /
    32768 ≤
  255) ∧
    (-200000 ≤
  (lockedSince 599).st.tb.rate +
    Int.tdiv
      (TowerTime.diff (TowerTime.ofMinute tenMessage.day tenMessage.minute) (TimeBase.now (lockedSince 599).st.tb) *
          250 +
        if
            { source := Source.reference, run := { sec := 940, cyc := 427 : RunTime }, tau := some 60 : PrevMark }.tau =
              some
                ((RunTime.elapsed
                      { source := Source.reference, run := { sec := 940, cyc := 427 : RunTime }, tau := some 60 :
                          PrevMark }.run
                      (lockedSince 599).st.tb.run +
                    16384) /
                  32768) then
          (lockedSince 599).st.ag.rateRem
        else 0)
      (↑((RunTime.elapsed
                { source := Source.reference, run := { sec := 940, cyc := 427 : RunTime }, tau := some 60 :
                    PrevMark }.run
                (lockedSince 599).st.tb.run +
              16384) /
            32768) :
        Int)) ∧
    ((lockedSince 599).st.tb.rate +
    Int.tdiv
      (TowerTime.diff (TowerTime.ofMinute tenMessage.day tenMessage.minute) (TimeBase.now (lockedSince 599).st.tb) *
          250 +
        if
            { source := Source.reference, run := { sec := 940, cyc := 427 : RunTime }, tau := some 60 : PrevMark }.tau =
              some
                ((RunTime.elapsed
                      { source := Source.reference, run := { sec := 940, cyc := 427 : RunTime }, tau := some 60 :
                          PrevMark }.run
                      (lockedSince 599).st.tb.run +
                    16384) /
                  32768) then
          (lockedSince 599).st.ag.rateRem
        else 0)
      (↑((RunTime.elapsed
                { source := Source.reference, run := { sec := 940, cyc := 427 : RunTime }, tau := some 60 :
                    PrevMark }.run
                (lockedSince 599).st.tb.run +
              16384) /
            32768) :
        Int) ≤
  200000) := by decide

/-- The hypotheses of `Obligations.SetTimeSteps`, clause 2.2.2.1. -/
theorem witness_set_time_idle :
    (State.Asked (bare base) ask start) ∧
    (7 ≤ List.length (timeArgs 86399999999)) ∧
    (word40 (timeArgs 86399999999) 2 < 86400000000) ∧
    ((bare base).st.ag.refState ≠ RefState.locked) ∧
    (∀ (p : Option Peer), p ∈ (bare base).st.ag.peers → p = none) ∧
    (∀ (r : Option Record), r ∈ (bare base).st.pf.table → r = none) ∧
    (∀ (c : Channel), c ∈ (bare base).st.channels → c.queue = [] ∧ c.waiting = none ∧ c.holder = Holder.none) ∧
    ((bare base).st.cfg.hourBell = none) ∧
    (Station.unfitted (bare base).st) ∧
    ((bare base).st.pg.calendar = List.replicate 96 none) ∧
    ((bare base).st.pg.scanMark = none) ∧
    ((bare base).st.ag.followed = none) := by decide

/-- The hypotheses of `Obligations.SetTimeSteps`, clause 2.2.2.2.1. -/
theorem witness_set_time_aborts :
    (State.Asked (bare (recordAnd playsOne (slotBell 0 LateClass.tune))) ask start) ∧
    (7 ≤ List.length (timeArgs 0)) ∧
    (word40 (timeArgs 0) 2 < 86400000000) ∧
    ((bare (recordAnd playsOne (slotBell 0 LateClass.tune))).st.ag.refState ≠ RefState.locked) ∧
    (∀ (p : Option Peer), p ∈ (bare (recordAnd playsOne (slotBell 0 LateClass.tune))).st.ag.peers → p = none) ∧
    (∀ (r : Option Record),
  r ∈ (bare (recordAnd playsOne (slotBell 0 LateClass.tune))).st.pf.table →
    ∀ (x : Record), x ∈ r → x.key.cls = PerfClass.tune ∨ x.key.cls = PerfClass.quarter) ∧
    (List.length (bare (recordAnd playsOne (slotBell 0 LateClass.tune))).st.pf.table = 6) ∧
    (List.length (bare (recordAnd playsOne (slotBell 0 LateClass.tune))).st.channels = 8) ∧
    ((bare (recordAnd playsOne (slotBell 0 LateClass.tune))).st.cfg.hourBell = none) := by decide

/-- The hypotheses of `Obligations.SetTimeSteps`, clause 2.2.2.2.2.1.1. -/
theorem witness_set_time_tolls :
    (State.Asked (bare (withRecord 1 (toll PerfState.playing 0 3))) ask start) ∧
    (7 ≤ List.length (timeArgs 0)) ∧
    (word40 (timeArgs 0) 2 < 86400000000) ∧
    ((bare (withRecord 1 (toll PerfState.playing 0 3))).st.ag.refState ≠ RefState.locked) ∧
    (∀ (p : Option Peer), p ∈ (bare (withRecord 1 (toll PerfState.playing 0 3))).st.ag.peers → p = none) ∧
    (1 < 6) ∧
    ((bare (withRecord 1 (toll PerfState.playing 0 3))).st.pf.table =
  List.set (List.replicate 6 none) 1 (some (toll PerfState.playing 0 3))) ∧
    ((toll PerfState.playing 0 3).key.cls = PerfClass.toll) ∧
    ((toll PerfState.playing 0 3).hasPart = true) ∧
    (2000 ≤ (toll PerfState.playing 0 3).beat) ∧
    ((toll PerfState.playing 0 3).beat ≤ 60000) ∧
    ((bare (withRecord 1 (toll PerfState.playing 0 3))).st.cfg.hourBell = none) ∧
    (∀ (k : ChannelConfig), k ∈ (bare (withRecord 1 (toll PerfState.playing 0 3))).st.cfg.channels → k.lead ≤ 400) ∧
    (TimeBase.inRange (bare (withRecord 1 (toll PerfState.playing 0 3))).st.tb) ∧
    ((toll PerfState.playing 0 3).state = PerfState.playing) ∧
    ((toll PerfState.playing 0 3).entriesOut = 0) ∧
    (∀ (c : Channel), c ∈ (bare (withRecord 1 (toll PerfState.playing 0 3))).st.channels → c.queue = [] ∧ c.waiting = none) := by decide

/-- The hypotheses of `Obligations.SetTimeSteps`, clause 2.2.2.2.2.1.2. -/
theorem witness_set_time_feeds_again :
    (State.Asked (bare (recordAnd (holding (oneOut (toll PerfState.ending 0 8))) (slotBell 0 LateClass.toll))) ask start) ∧
    (7 ≤ List.length (timeArgs 0)) ∧
    (word40 (timeArgs 0) 2 < 86400000000) ∧
    ((bare (recordAnd (holding (oneOut (toll PerfState.ending 0 8))) (slotBell 0 LateClass.toll))).st.ag.refState ≠
  RefState.locked) ∧
    (∀ (p : Option Peer),
  p ∈ (bare (recordAnd (holding (oneOut (toll PerfState.ending 0 8))) (slotBell 0 LateClass.toll))).st.ag.peers →
    p = none) ∧
    (1 < 6) ∧
    ((bare (recordAnd (holding (oneOut (toll PerfState.ending 0 8))) (slotBell 0 LateClass.toll))).st.pf.table =
  List.set (List.replicate 6 none) 1 (some (holding (oneOut (toll PerfState.ending 0 8))))) ∧
    ((holding (oneOut (toll PerfState.ending 0 8))).key.cls = PerfClass.toll) ∧
    ((holding (oneOut (toll PerfState.ending 0 8))).hasPart = true) ∧
    (2000 ≤ (holding (oneOut (toll PerfState.ending 0 8))).beat) ∧
    ((holding (oneOut (toll PerfState.ending 0 8))).beat ≤ 60000) ∧
    ((bare (recordAnd (holding (oneOut (toll PerfState.ending 0 8))) (slotBell 0 LateClass.toll))).st.cfg.hourBell = none) ∧
    (∀ (k : ChannelConfig),
  k ∈ (bare (recordAnd (holding (oneOut (toll PerfState.ending 0 8))) (slotBell 0 LateClass.toll))).st.cfg.channels →
    k.lead ≤ 400) ∧
    (TimeBase.inRange (bare (recordAnd (holding (oneOut (toll PerfState.ending 0 8))) (slotBell 0 LateClass.toll))).st.tb) ∧
    ((holding (oneOut (toll PerfState.ending 0 8))).state = PerfState.playing ∨
  (holding (oneOut (toll PerfState.ending 0 8))).state = PerfState.ending) ∧
    ((holding (oneOut (toll PerfState.ending 0 8))).entriesOut = 1) ∧
    ((bare (recordAnd (holding (oneOut (toll PerfState.ending 0 8))) (slotBell 0 LateClass.toll))).st.channels[0]? =
  some (slotBell 0 LateClass.toll)) ∧
    (0 < 8) ∧
    ((slotBell 0 LateClass.toll).holder = Holder.perf 1 3) ∧
    (List.length (slotBell 0 LateClass.toll).queue = 1) ∧
    ((slotBell 0 LateClass.toll).waiting = none) ∧
    (∀ (d : Channel),
  d ∈
      List.set (bare (recordAnd (holding (oneOut (toll PerfState.ending 0 8))) (slotBell 0 LateClass.toll))).st.channels
        0
        { state := (slotBell 0 LateClass.toll).state, lastLaunch := (slotBell 0 LateClass.toll).lastLaunch,
          holder := (slotBell 0 LateClass.toll).holder, waiting := (slotBell 0 LateClass.toll).waiting,
          isProtected := (slotBell 0 LateClass.toll).isProtected, openPhrase := (slotBell 0 LateClass.toll).openPhrase,
          queue := [], pulseEnd := (slotBell 0 LateClass.toll).pulseEnd,
          pulseEnded := (slotBell 0 LateClass.toll).pulseEnded, restTaken := (slotBell 0 LateClass.toll).restTaken,
          rested := (slotBell 0 LateClass.toll).rested, lostAt := (slotBell 0 LateClass.toll).lostAt : Channel } →
    d.queue = [] ∧ d.waiting = none) := by decide

/-- The hypotheses of `Obligations.SetTimeSteps`, clause 2.2.2.2.2.2. -/
theorem witness_set_time_makes_hour :
    (State.Asked (on (hearing base)) ask start) ∧
    (7 ≤ List.length (timeArgs 36299996948)) ∧
    (word40 (timeArgs 36299996948) 2 < 86400000000) ∧
    ((on (hearing base)).st.ag.refState ≠ RefState.locked) ∧
    (∀ (p : Option Peer), p ∈ (on (hearing base)).st.ag.peers → p = none) ∧
    ((on (hearing base)).st.cfg.hourBell = some 1) ∧
    (StationBlock.isOwn (on (hearing base)).st.cfg 1 = true) ∧
    ((on (hearing base)).st.pf.silenced = false) ∧
    ((on (hearing base)).st.pf.table = List.replicate 6 none) ∧
    (∀ (t : RunTime), t ∈ (on (hearing base)).st.pf.lastHour → 3000 * 32768 ≤ RunTime.elapsed t (on (hearing base)).st.tb.run) ∧
    ((↑((TowerTime.civil
            (TowerTime.plus (TimeBase.now (on (hearing base)).st.tb)
              (TowerTime.diff
                { day := word16 (timeArgs 36299996948) 0, us := word40 (timeArgs 36299996948) 2 : TowerTime }
                { day := start.day, us := start.us : TowerTime }))
            (on (hearing base)).st.tb.offset).us -
        (TowerTime.civil
                (TowerTime.plus (TimeBase.now (on (hearing base)).st.tb)
                  (TowerTime.diff
                    { day := word16 (timeArgs 36299996948) 0, us := word40 (timeArgs 36299996948) 2 : TowerTime }
                    { day := start.day, us := start.us : TowerTime }))
                (on (hearing base)).st.tb.offset).us /
            3600000000 *
          3600000000) :
    Int) <
  TowerTime.diff { day := word16 (timeArgs 36299996948) 0, us := word40 (timeArgs 36299996948) 2 : TowerTime }
    { day := start.day, us := start.us : TowerTime }) ∧
    ((TowerTime.civil
        (TowerTime.plus (TimeBase.now (on (hearing base)).st.tb)
          (TowerTime.diff { day := word16 (timeArgs 36299996948) 0, us := word40 (timeArgs 36299996948) 2 : TowerTime }
            { day := start.day, us := start.us : TowerTime }))
        (on (hearing base)).st.tb.offset).us -
    (TowerTime.civil
            (TowerTime.plus (TimeBase.now (on (hearing base)).st.tb)
              (TowerTime.diff
                { day := word16 (timeArgs 36299996948) 0, us := word40 (timeArgs 36299996948) 2 : TowerTime }
                { day := start.day, us := start.us : TowerTime }))
            (on (hearing base)).st.tb.offset).us /
        3600000000 *
      3600000000 ≤
  300000000) ∧
    (Programme.silentAt (on (hearing base)).st.pg
    (TowerTime.civil
        (TowerTime.plus (TimeBase.now (on (hearing base)).st.tb)
          (TowerTime.diff { day := word16 (timeArgs 36299996948) 0, us := word40 (timeArgs 36299996948) 2 : TowerTime }
            { day := start.day, us := start.us : TowerTime }))
        (on (hearing base)).st.tb.offset).day
    ((TowerTime.civil
            (TowerTime.plus (TimeBase.now (on (hearing base)).st.tb)
              (TowerTime.diff
                { day := word16 (timeArgs 36299996948) 0, us := word40 (timeArgs 36299996948) 2 : TowerTime }
                { day := start.day, us := start.us : TowerTime }))
            (on (hearing base)).st.tb.offset).us /
        3600000000 *
      60) =
  false) ∧
    (∀ (k : RecentKey),
  k ∈ (on (hearing base)).st.pf.recent →
    k.key ≠
        { cls := PerfClass.hour, number := 0, quarter := 0,
          day :=
            (TowerTime.plus
                {
                  day :=
                    (TowerTime.civil
                        (TowerTime.plus (TimeBase.now (on (hearing base)).st.tb)
                          (TowerTime.diff
                            { day := word16 (timeArgs 36299996948) 0, us := word40 (timeArgs 36299996948) 2 :
                              TowerTime }
                            { day := start.day, us := start.us : TowerTime }))
                        (on (hearing base)).st.tb.offset).day,
                  us :=
                    (TowerTime.civil
                            (TowerTime.plus (TimeBase.now (on (hearing base)).st.tb)
                              (TowerTime.diff
                                { day := word16 (timeArgs 36299996948) 0, us := word40 (timeArgs 36299996948) 2 :
                                  TowerTime }
                                { day := start.day, us := start.us : TowerTime }))
                            (on (hearing base)).st.tb.offset).us /
                        3600000000 *
                      3600000000 :
                  TowerTime }
                (-(↑((on (hearing base)).st.tb.offset * 60000000) : Int))).day,
          minute :=
            (TowerTime.plus
                  {
                    day :=
                      (TowerTime.civil
                          (TowerTime.plus (TimeBase.now (on (hearing base)).st.tb)
                            (TowerTime.diff
                              { day := word16 (timeArgs 36299996948) 0, us := word40 (timeArgs 36299996948) 2 :
                                TowerTime }
                              { day := start.day, us := start.us : TowerTime }))
                          (on (hearing base)).st.tb.offset).day,
                    us :=
                      (TowerTime.civil
                              (TowerTime.plus (TimeBase.now (on (hearing base)).st.tb)
                                (TowerTime.diff
                                  { day := word16 (timeArgs 36299996948) 0, us := word40 (timeArgs 36299996948) 2 :
                                    TowerTime }
                                  { day := start.day, us := start.us : TowerTime }))
                              (on (hearing base)).st.tb.offset).us /
                          3600000000 *
                        3600000000 :
                    TowerTime }
                  (-(↑((on (hearing base)).st.tb.offset * 60000000) : Int))).us /
              60000000 :
          Key } ∧
      Key.isHourChime k.key
          (TowerTime.plus
              {
                day :=
                  (TowerTime.civil
                      (TowerTime.plus (TimeBase.now (on (hearing base)).st.tb)
                        (TowerTime.diff
                          { day := word16 (timeArgs 36299996948) 0, us := word40 (timeArgs 36299996948) 2 : TowerTime }
                          { day := start.day, us := start.us : TowerTime }))
                      (on (hearing base)).st.tb.offset).day,
                us :=
                  (TowerTime.civil
                          (TowerTime.plus (TimeBase.now (on (hearing base)).st.tb)
                            (TowerTime.diff
                              { day := word16 (timeArgs 36299996948) 0, us := word40 (timeArgs 36299996948) 2 :
                                TowerTime }
                              { day := start.day, us := start.us : TowerTime }))
                          (on (hearing base)).st.tb.offset).us /
                      3600000000 *
                    3600000000 :
                TowerTime }
              (-(↑((on (hearing base)).st.tb.offset * 60000000) : Int))).day
          ((TowerTime.plus
                {
                  day :=
                    (TowerTime.civil
                        (TowerTime.plus (TimeBase.now (on (hearing base)).st.tb)
                          (TowerTime.diff
                            { day := word16 (timeArgs 36299996948) 0, us := word40 (timeArgs 36299996948) 2 :
                              TowerTime }
                            { day := start.day, us := start.us : TowerTime }))
                        (on (hearing base)).st.tb.offset).day,
                  us :=
                    (TowerTime.civil
                            (TowerTime.plus (TimeBase.now (on (hearing base)).st.tb)
                              (TowerTime.diff
                                { day := word16 (timeArgs 36299996948) 0, us := word40 (timeArgs 36299996948) 2 :
                                  TowerTime }
                                { day := start.day, us := start.us : TowerTime }))
                            (on (hearing base)).st.tb.offset).us /
                        3600000000 *
                      3600000000 :
                  TowerTime }
                (-(↑((on (hearing base)).st.tb.offset * 60000000) : Int))).us /
            60000000) =
        false) := by decide

/-- The hypotheses of `Obligations.HeardCueMakesARecord`, clause 2.2.2.1. -/
theorem witness_cue_full :
    (State.settled fullTable) ∧
    (Station.running fullTable.st = true) ∧
    (Station.Hears fullTable.st 7 start) ∧
    (List.length (cueBytes tollKey 0 1000 1) = 12) ∧
    (fullTable.st.tb.valid = true) ∧
    (fullTable.st.pf.silenced = false) ∧
    ((keyAt (cueBytes tollKey 0 1000 1) 0).cls ≠ PerfClass.hour) ∧
    (Key.valid (keyAt (cueBytes tollKey 0 1000 1) 0) = true) ∧
    (Performances.slotOf fullTable.st.pf (keyAt (cueBytes tollKey 0 1000 1) 0) = none) ∧
    (Performances.isRecent fullTable.st.pf (keyAt (cueBytes tollKey 0 1000 1) 0) = false) ∧
    (Performances.freeSlot fullTable.st.pf = none) := by decide

/-- The hypotheses of `Obligations.HeardCueMakesARecord`, clause 2.2.2.2.1.1. -/
theorem witness_cue_known :
    (State.settled silenceMe) ∧
    (Station.running silenceMe.st = true) ∧
    (Station.Hears silenceMe.st 7 start) ∧
    (List.length (cueBytes tuneKey 0 600 8) = 12) ∧
    (silenceMe.st.tb.valid = true) ∧
    (silenceMe.st.pf.silenced = false) ∧
    ((keyAt (cueBytes tuneKey 0 600 8) 0).cls ≠ PerfClass.hour) ∧
    (Key.valid (keyAt (cueBytes tuneKey 0 600 8) 0) = true) ∧
    (Performances.slotOf silenceMe.st.pf (keyAt (cueBytes tuneKey 0 600 8) 0) = some 1) ∧
    (Station.record silenceMe.st 1 = some (record tuneKey PerfState.cued 0 true)) ∧
    ((record tuneKey PerfState.cued 0 true).origin = Origin.heard ∨
  (record tuneKey PerfState.cued 0 true).frameState = FrameState.heard ∨
    (record tuneKey PerfState.cued 0 true).frameState = FrameState.none) := by decide

/-- The hypotheses of `Obligations.HeardCueMakesARecord`, clause 2.2.2.2.1.2.1. -/
theorem witness_cue_adopted :
    (State.settled (hearsWith (undelivered cueWaits))) ∧
    (Station.running (hearsWith (undelivered cueWaits)).st = true) ∧
    (Station.Hears (hearsWith (undelivered cueWaits)).st 7 start) ∧
    (List.length (cueBytes tuneKey 0 600 0) = 12) ∧
    ((hearsWith (undelivered cueWaits)).st.tb.valid = true) ∧
    ((hearsWith (undelivered cueWaits)).st.pf.silenced = false) ∧
    ((keyAt (cueBytes tuneKey 0 600 0) 0).cls ≠ PerfClass.hour) ∧
    (Key.valid (keyAt (cueBytes tuneKey 0 600 0) 0) = true) ∧
    (Performances.slotOf (hearsWith (undelivered cueWaits)).st.pf (keyAt (cueBytes tuneKey 0 600 0) 0) = some 1) ∧
    (Station.record (hearsWith (undelivered cueWaits)).st 1 = some (undelivered cueWaits)) ∧
    ((undelivered cueWaits).origin = Origin.localCue) ∧
    (((undelivered cueWaits).start =
      TowerTime.plus
        (TowerTime.ofMinute (keyAt (cueBytes tuneKey 0 600 0) 0).day (keyAt (cueBytes tuneKey 0 600 0) 0).minute)
        (↑(word16 (cueBytes tuneKey 0 600 0) 6 * 1000) : Int) ∧
    (undelivered cueWaits).beat =
      if (keyAt (cueBytes tuneKey 0 600 0) 0).cls = PerfClass.toll then
        max 1000 (min 60000 (word16 (cueBytes tuneKey 0 600 0) 8))
      else max 150 (min 2000 (word16 (cueBytes tuneKey 0 600 0) 8))) ∨
  (∀ (m : BellMark), m ∈ (undelivered cueWaits).marks → BellMark.holds m = false) ∧
    TowerTime.diff (TimeBase.now (hearsWith (undelivered cueWaits)).st.tb)
        (TowerTime.plus
          (TowerTime.plus
            (TowerTime.ofMinute (keyAt (cueBytes tuneKey 0 600 0) 0).day (keyAt (cueBytes tuneKey 0 600 0) 0).minute)
            (↑(word16 (cueBytes tuneKey 0 600 0) 6 * 1000) : Int))
          (-1500000)) <
      0) ∧
    ((undelivered cueWaits).frameState = FrameState.undelivered) := by decide

/-- The hypotheses of `Obligations.HeardCueMakesARecord`, clause 2.2.2.2.1.2.1. -/
theorem witness_cue_adopted2 :
    (State.settled (hearsWith (undelivered cueWaits))) ∧
    (Station.running (hearsWith (undelivered cueWaits)).st = true) ∧
    (Station.Hears (hearsWith (undelivered cueWaits)).st 7 start) ∧
    (List.length (cueBytes tuneKey 0 601 4097) = 12) ∧
    ((hearsWith (undelivered cueWaits)).st.tb.valid = true) ∧
    ((hearsWith (undelivered cueWaits)).st.pf.silenced = false) ∧
    ((keyAt (cueBytes tuneKey 0 601 4097) 0).cls ≠ PerfClass.hour) ∧
    (Key.valid (keyAt (cueBytes tuneKey 0 601 4097) 0) = true) ∧
    (Performances.slotOf (hearsWith (undelivered cueWaits)).st.pf (keyAt (cueBytes tuneKey 0 601 4097) 0) = some 1) ∧
    (Station.record (hearsWith (undelivered cueWaits)).st 1 = some (undelivered cueWaits)) ∧
    ((undelivered cueWaits).origin = Origin.localCue) ∧
    (((undelivered cueWaits).start =
      TowerTime.plus
        (TowerTime.ofMinute (keyAt (cueBytes tuneKey 0 601 4097) 0).day (keyAt (cueBytes tuneKey 0 601 4097) 0).minute)
        (↑(word16 (cueBytes tuneKey 0 601 4097) 6 * 1000) : Int) ∧
    (undelivered cueWaits).beat =
      if (keyAt (cueBytes tuneKey 0 601 4097) 0).cls = PerfClass.toll then
        max 1000 (min 60000 (word16 (cueBytes tuneKey 0 601 4097) 8))
      else max 150 (min 2000 (word16 (cueBytes tuneKey 0 601 4097) 8))) ∨
  (∀ (m : BellMark), m ∈ (undelivered cueWaits).marks → BellMark.holds m = false) ∧
    TowerTime.diff (TimeBase.now (hearsWith (undelivered cueWaits)).st.tb)
        (TowerTime.plus
          (TowerTime.plus
            (TowerTime.ofMinute (keyAt (cueBytes tuneKey 0 601 4097) 0).day
              (keyAt (cueBytes tuneKey 0 601 4097) 0).minute)
            (↑(word16 (cueBytes tuneKey 0 601 4097) 6 * 1000) : Int))
          (-1500000)) <
      0) ∧
    ((undelivered cueWaits).frameState = FrameState.undelivered) := by decide

/-- The hypotheses of `Obligations.HeardCueMakesARecord`, clause 2.2.2.2.1.2.1. -/
theorem witness_cue_adopted3 :
    (State.settled (hearsWith (undelivered (toll PerfState.playing 60000000 1)))) ∧
    (Station.running (hearsWith (undelivered (toll PerfState.playing 60000000 1))).st = true) ∧
    (Station.Hears (hearsWith (undelivered (toll PerfState.playing 60000000 1))).st 7 start) ∧
    (List.length (cueBytes tollKey 0 2000 1) = 12) ∧
    ((hearsWith (undelivered (toll PerfState.playing 60000000 1))).st.tb.valid = true) ∧
    ((hearsWith (undelivered (toll PerfState.playing 60000000 1))).st.pf.silenced = false) ∧
    ((keyAt (cueBytes tollKey 0 2000 1) 0).cls ≠ PerfClass.hour) ∧
    (Key.valid (keyAt (cueBytes tollKey 0 2000 1) 0) = true) ∧
    (Performances.slotOf (hearsWith (undelivered (toll PerfState.playing 60000000 1))).st.pf
    (keyAt (cueBytes tollKey 0 2000 1) 0) =
  some 1) ∧
    (Station.record (hearsWith (undelivered (toll PerfState.playing 60000000 1))).st 1 =
  some (undelivered (toll PerfState.playing 60000000 1))) ∧
    ((undelivered (toll PerfState.playing 60000000 1)).origin = Origin.localCue) ∧
    (((undelivered (toll PerfState.playing 60000000 1)).start =
      TowerTime.plus
        (TowerTime.ofMinute (keyAt (cueBytes tollKey 0 2000 1) 0).day (keyAt (cueBytes tollKey 0 2000 1) 0).minute)
        (↑(word16 (cueBytes tollKey 0 2000 1) 6 * 1000) : Int) ∧
    (undelivered (toll PerfState.playing 60000000 1)).beat =
      if (keyAt (cueBytes tollKey 0 2000 1) 0).cls = PerfClass.toll then
        max 1000 (min 60000 (word16 (cueBytes tollKey 0 2000 1) 8))
      else max 150 (min 2000 (word16 (cueBytes tollKey 0 2000 1) 8))) ∨
  (∀ (m : BellMark), m ∈ (undelivered (toll PerfState.playing 60000000 1)).marks → BellMark.holds m = false) ∧
    TowerTime.diff (TimeBase.now (hearsWith (undelivered (toll PerfState.playing 60000000 1))).st.tb)
        (TowerTime.plus
          (TowerTime.plus
            (TowerTime.ofMinute (keyAt (cueBytes tollKey 0 2000 1) 0).day (keyAt (cueBytes tollKey 0 2000 1) 0).minute)
            (↑(word16 (cueBytes tollKey 0 2000 1) 6 * 1000) : Int))
          (-1500000)) <
      0) ∧
    ((undelivered (toll PerfState.playing 60000000 1)).frameState = FrameState.undelivered) := by decide

/-- The hypotheses of `Obligations.HeardCueMakesARecord`, clause 2.2.2.2.1.2.2. -/
theorem witness_cue_withdrawn :
    (State.settled cueQueued) ∧
    (Station.running cueQueued.st = true) ∧
    (Station.Hears cueQueued.st 7 start) ∧
    (List.length (cueBytes tuneKey 1 600 8) = 12) ∧
    (cueQueued.st.tb.valid = true) ∧
    (cueQueued.st.pf.silenced = false) ∧
    ((keyAt (cueBytes tuneKey 1 600 8) 0).cls ≠ PerfClass.hour) ∧
    (Key.valid (keyAt (cueBytes tuneKey 1 600 8) 0) = true) ∧
    (Performances.slotOf cueQueued.st.pf (keyAt (cueBytes tuneKey 1 600 8) 0) = some 1) ∧
    (Station.record cueQueued.st 1 = some cueWaits) ∧
    (cueWaits.origin = Origin.localCue) ∧
    ((cueWaits.start =
      TowerTime.plus
        (TowerTime.ofMinute (keyAt (cueBytes tuneKey 1 600 8) 0).day (keyAt (cueBytes tuneKey 1 600 8) 0).minute)
        (↑(word16 (cueBytes tuneKey 1 600 8) 6 * 1000) : Int) ∧
    cueWaits.beat =
      if (keyAt (cueBytes tuneKey 1 600 8) 0).cls = PerfClass.toll then
        max 1000 (min 60000 (word16 (cueBytes tuneKey 1 600 8) 8))
      else max 150 (min 2000 (word16 (cueBytes tuneKey 1 600 8) 8))) ∨
  (∀ (m : BellMark), m ∈ cueWaits.marks → BellMark.holds m = false) ∧
    TowerTime.diff (TimeBase.now cueQueued.st.tb)
        (TowerTime.plus
          (TowerTime.plus
            (TowerTime.ofMinute (keyAt (cueBytes tuneKey 1 600 8) 0).day (keyAt (cueBytes tuneKey 1 600 8) 0).minute)
            (↑(word16 (cueBytes tuneKey 1 600 8) 6 * 1000) : Int))
          (-1500000)) <
      0) ∧
    (cueWaits.frameState = FrameState.queued) ∧
    (cueQueued.st.bus.queue = [cueSlot]) ∧
    (Frame.isCueOf (keyAt (cueBytes tuneKey 1 600 8) 0) cueSlot.frame = true) := by decide

/-- The hypotheses of `Obligations.HeardCueMakesARecord`, clause 2.2.2.2.2.1.1. -/
theorem witness_cue_silent :
    (State.settled (on (hearing base))) ∧
    (Station.running (on (hearing base)).st = true) ∧
    (Station.Hears (on (hearing base)).st 7 start) ∧
    (List.length (cueBytes tenKey 1500 600 8) = 12) ∧
    ((on (hearing base)).st.tb.valid = true) ∧
    ((on (hearing base)).st.pf.silenced = false) ∧
    ((keyAt (cueBytes tenKey 1500 600 8) 0).cls ≠ PerfClass.hour) ∧
    (Key.valid (keyAt (cueBytes tenKey 1500 600 8) 0) = true) ∧
    ((keyAt (cueBytes tenKey 1500 600 8) 0).cls = PerfClass.tune) ∧
    (Performances.slotOf (on (hearing base)).st.pf (keyAt (cueBytes tenKey 1500 600 8) 0) = none) ∧
    (Performances.isRecent (on (hearing base)).st.pf (keyAt (cueBytes tenKey 1500 600 8) 0) = false) ∧
    (Performances.freeSlot (on (hearing base)).st.pf = some 1) ∧
    (0 ≤
  TowerTime.diff (TimeBase.now (on (hearing base)).st.tb)
    (TowerTime.plus
      (TowerTime.plus
        (TowerTime.ofMinute (keyAt (cueBytes tenKey 1500 600 8) 0).day (keyAt (cueBytes tenKey 1500 600 8) 0).minute)
        (↑(word16 (cueBytes tenKey 1500 600 8) 6 * 1000) : Int))
      (-1500000))) ∧
    (∀ (t : Tune),
  Programme.tune (on (hearing base)).st.pg (keyAt (cueBytes tenKey 1500 600 8) 0).number = some t →
    t.state = TuneState.opened ∨ t.own = 0) := by decide

/-- The hypotheses of `Obligations.HeardCueMakesARecord`, clause 2.2.2.2.2.1.2. -/
theorem witness_cue_plays :
    (State.settled (on (hearing (oneTune 3 base)))) ∧
    (Station.running (on (hearing (oneTune 3 base))).st = true) ∧
    (Station.Hears (on (hearing (oneTune 3 base))).st 7 start) ∧
    (List.length (cueBytes tenKey 1500 600 8) = 12) ∧
    ((on (hearing (oneTune 3 base))).st.tb.valid = true) ∧
    ((on (hearing (oneTune 3 base))).st.pf.silenced = false) ∧
    ((keyAt (cueBytes tenKey 1500 600 8) 0).cls ≠ PerfClass.hour) ∧
    (Key.valid (keyAt (cueBytes tenKey 1500 600 8) 0) = true) ∧
    ((keyAt (cueBytes tenKey 1500 600 8) 0).cls = PerfClass.tune) ∧
    (Performances.slotOf (on (hearing (oneTune 3 base))).st.pf (keyAt (cueBytes tenKey 1500 600 8) 0) = none) ∧
    (Performances.isRecent (on (hearing (oneTune 3 base))).st.pf (keyAt (cueBytes tenKey 1500 600 8) 0) = false) ∧
    (Performances.freeSlot (on (hearing (oneTune 3 base))).st.pf = some 1) ∧
    (0 ≤
  TowerTime.diff (TimeBase.now (on (hearing (oneTune 3 base))).st.tb)
    (TowerTime.plus
      (TowerTime.plus
        (TowerTime.ofMinute (keyAt (cueBytes tenKey 1500 600 8) 0).day (keyAt (cueBytes tenKey 1500 600 8) 0).minute)
        (↑(word16 (cueBytes tenKey 1500 600 8) 6 * 1000) : Int))
      (-1500000))) ∧
    (Programme.tune (on (hearing (oneTune 3 base))).st.pg (keyAt (cueBytes tenKey 1500 600 8) 0).number =
  some { number := 250, length := 8, beat := 600, own := 1, received := 1, first := 0, state := TuneState.ready : Tune }) ∧
    ({ number := 250, length := 8, beat := 600, own := 1, received := 1, first := 0, state := TuneState.ready :
      Tune }.state ≠
  TuneState.opened) ∧
    (0 <
  { number := 250, length := 8, beat := 600, own := 1, received := 1, first := 0, state := TuneState.ready : Tune }.own) ∧
    (Programme.noteOf (on (hearing (oneTune 3 base))).st.pg (keyAt (cueBytes tenKey 1500 600 8) 0).number 0 =
  some { offset := 3, bell := 1, velocity := 4, phrase := Phrase.none : Note }) ∧
    (StationBlock.channelOf (on (hearing (oneTune 3 base))).st.cfg
    { offset := 3, bell := 1, velocity := 4, phrase := Phrase.none : Note }.bell =
  some 0) ∧
    (1500000 <
  TowerTime.diff
    (TowerTime.plus
      (TowerTime.plus
        (TowerTime.plus
          (TowerTime.ofMinute (keyAt (cueBytes tenKey 1500 600 8) 0).day (keyAt (cueBytes tenKey 1500 600 8) 0).minute)
          (↑(word16 (cueBytes tenKey 1500 600 8) 6 * 1000) : Int))
        (↑(noteDelay { offset := 3, bell := 1, velocity := 4, phrase := Phrase.none : Note }.offset
              (if (keyAt (cueBytes tenKey 1500 600 8) 0).cls = PerfClass.toll then
                max 1000 (min 60000 (word16 (cueBytes tenKey 1500 600 8) 8))
              else max 150 (min 2000 (word16 (cueBytes tenKey 1500 600 8) 8)))) :
          Int))
      (-(↑((Station.channelCfg (on (hearing (oneTune 3 base))).st 0).lead * 1000) : Int)))
    (TimeBase.now (on (hearing (oneTune 3 base))).st.tb)) := by decide

/-- The hypotheses of `Obligations.HeardCueMakesARecord`, clause 2.2.2.2.2.2. -/
theorem witness_cue_delays_hour :
    (State.settled hourWaitsAgain) ∧
    (Station.running hourWaitsAgain.st = true) ∧
    (Station.Hears hourWaitsAgain.st 7 start) ∧
    (List.length (cueBytes chimeKey 1501 600 8) = 12) ∧
    (hourWaitsAgain.st.tb.valid = true) ∧
    (hourWaitsAgain.st.pf.silenced = false) ∧
    ((keyAt (cueBytes chimeKey 1501 600 8) 0).cls ≠ PerfClass.hour) ∧
    (Key.valid (keyAt (cueBytes chimeKey 1501 600 8) 0) = true) ∧
    ((keyAt (cueBytes chimeKey 1501 600 8) 0).cls = PerfClass.quarter) ∧
    ((keyAt (cueBytes chimeKey 1501 600 8) 0).quarter = 4) ∧
    (Performances.slotOf hourWaitsAgain.st.pf (keyAt (cueBytes chimeKey 1501 600 8) 0) = none) ∧
    (Performances.isRecent hourWaitsAgain.st.pf (keyAt (cueBytes chimeKey 1501 600 8) 0) = false) ∧
    (Performances.freeSlot hourWaitsAgain.st.pf = some 1) ∧
    (TowerTime.diff (TimeBase.now hourWaitsAgain.st.tb)
    (TowerTime.plus
      (TowerTime.plus
        (TowerTime.ofMinute (keyAt (cueBytes chimeKey 1501 600 8) 0).day
          (keyAt (cueBytes chimeKey 1501 600 8) 0).minute)
        (↑(word16 (cueBytes chimeKey 1501 600 8) 6 * 1000) : Int))
      (-1500000)) <
  0) ∧
    (Station.record hourWaitsAgain.st 0 = some hourPlays) ∧
    ((keyAt (cueBytes chimeKey 1501 600 8) 0).day = hourPlays.key.day) ∧
    ((keyAt (cueBytes chimeKey 1501 600 8) 0).minute = hourPlays.key.minute) ∧
    (hourPlays.state ≠ PerfState.waiting) ∧
    (hourPlays.firstLaunched = false) ∧
    (hourPlays.deadline2 = some { sec := 1000, cyc := 101 : RunTime }) ∧
    (RunTime.reached { sec := 1000, cyc := 101 : RunTime } hourWaitsAgain.st.tb.run = false) ∧
    (0 < 8) ∧
    (hourPlays.marks = List.set (List.replicate 8 BellMark.none) 0 BellMark.held) ∧
    (hourWaitsAgain.st.channels[0]? = some hourBell) ∧
    (hourBell.holder = Holder.perf 0 0) ∧
    (hourBell.waiting = none) := by decide

/-- The hypotheses of `Obligations.StartMakesAndSendsACue`, clause 2.1. -/
theorem witness_start_tune_range :
    (State.Asked (on (hearing base)) ask start) ∧
    (4 ≤ List.length (tuneArgs 251 0)) ∧
    (byteAt (tuneArgs 251 0) 0 = 0) ∧
    (byteAt (tuneArgs 251 0) 1 = 0 ∨ 250 < byteAt (tuneArgs 251 0) 1) := by decide

/-- The hypotheses of `Obligations.StartMakesAndSendsACue`, clause 2.2.1. -/
theorem witness_start_tune_state :
    (State.Asked startStateCase ask start) ∧
    (4 ≤ List.length (tuneArgs 250 0)) ∧
    (byteAt (tuneArgs 250 0) 0 = 0) ∧
    (1 ≤ byteAt (tuneArgs 250 0) 1) ∧
    (byteAt (tuneArgs 250 0) 1 ≤ 250) ∧
    (startStateCase.st.cfg.cueCapable = false ∨ startStateCase.st.pf.silenced = true ∨ startStateCase.st.tb.valid = false) := by decide

/-- The hypotheses of `Obligations.StartMakesAndSendsACue`, clause 2.2.2.1. -/
theorem witness_start_tune_absent :
    (State.Asked (on (hearing base)) ask start) ∧
    (4 ≤ List.length (tuneArgs 250 0)) ∧
    (byteAt (tuneArgs 250 0) 0 = 0) ∧
    (1 ≤ byteAt (tuneArgs 250 0) 1 ∧
  byteAt (tuneArgs 250 0) 1 ≤ 250 ∧
    (on (hearing base)).st.cfg.cueCapable = true ∧
      (on (hearing base)).st.pf.silenced = false ∧ (on (hearing base)).st.tb.valid = true) ∧
    (∀ (t : Tune), Programme.tune (on (hearing base)).st.pg (byteAt (tuneArgs 250 0) 1) = some t → t.state = TuneState.opened) := by decide

/-- The hypotheses of `Obligations.StartMakesAndSendsACue`, clause 2.2.2.1. -/
theorem witness_start_tune_open :
    (State.Asked (programmed (opened false)) ask start) ∧
    (4 ≤ List.length (tuneArgs 250 0)) ∧
    (byteAt (tuneArgs 250 0) 0 = 0) ∧
    (1 ≤ byteAt (tuneArgs 250 0) 1 ∧
  byteAt (tuneArgs 250 0) 1 ≤ 250 ∧
    (programmed (opened false)).st.cfg.cueCapable = true ∧
      (programmed (opened false)).st.pf.silenced = false ∧ (programmed (opened false)).st.tb.valid = true) ∧
    (∀ (t : Tune),
  Programme.tune (programmed (opened false)).st.pg (byteAt (tuneArgs 250 0) 1) = some t → t.state = TuneState.opened) := by decide

/-- The hypotheses of `Obligations.StartMakesAndSendsACue`, clause 2.2.2.2.1. -/
theorem witness_start_tune_duplicate :
    (State.Asked
  (on
    (oneTune 0 (knowsKey { cls := PerfClass.tune, number := 250, quarter := 0, day := 9000, minute := 599 : Key }).st))
  ask start) ∧
    (4 ≤ List.length (tuneArgs 250 0)) ∧
    (byteAt (tuneArgs 250 0) 0 = 0) ∧
    (1 ≤ byteAt (tuneArgs 250 0) 1 ∧
  byteAt (tuneArgs 250 0) 1 ≤ 250 ∧
    (on
                (oneTune 0
                  (knowsKey
                      { cls := PerfClass.tune, number := 250, quarter := 0, day := 9000, minute := 599 :
                        Key }).st)).st.cfg.cueCapable =
        true ∧
      (on
                  (oneTune 0
                    (knowsKey
                        { cls := PerfClass.tune, number := 250, quarter := 0, day := 9000, minute := 599 :
                          Key }).st)).st.pf.silenced =
          false ∧
        (on
                  (oneTune 0
                    (knowsKey
                        { cls := PerfClass.tune, number := 250, quarter := 0, day := 9000, minute := 599 :
                          Key }).st)).st.tb.valid =
          true) ∧
    (Programme.tune
    (on
          (oneTune 0
            (knowsKey
                { cls := PerfClass.tune, number := 250, quarter := 0, day := 9000, minute := 599 : Key }).st)).st.pg
    (byteAt (tuneArgs 250 0) 1) =
  some { number := 250, length := 8, beat := 600, own := 1, received := 1, first := 0, state := TuneState.ready : Tune }) ∧
    ({ number := 250, length := 8, beat := 600, own := 1, received := 1, first := 0, state := TuneState.ready :
      Tune }.state ≠
  TuneState.opened) ∧
    (Option.isSome
      (Performances.slotOf
        (on
              (oneTune 0
                (knowsKey
                    { cls := PerfClass.tune, number := 250, quarter := 0, day := 9000, minute := 599 : Key }).st)).st.pf
        { cls := PerfClass.tune, number := byteAt (tuneArgs 250 0) 1, quarter := 0, day := start.day,
          minute := start.us / 60000000 : Key }) =
    true ∨
  Performances.isRecent
      (on
            (oneTune 0
              (knowsKey
                  { cls := PerfClass.tune, number := 250, quarter := 0, day := 9000, minute := 599 : Key }).st)).st.pf
      { cls := PerfClass.tune, number := byteAt (tuneArgs 250 0) 1, quarter := 0, day := start.day,
        minute := start.us / 60000000 : Key } =
    true) := by decide

/-- The hypotheses of `Obligations.StartMakesAndSendsACue`, clause 2.2.2.2.2.1. -/
theorem witness_start_tune_full :
    (State.Asked (on (oneTune 0 fullTable.st)) ask start) ∧
    (4 ≤ List.length (tuneArgs 250 0)) ∧
    (byteAt (tuneArgs 250 0) 0 = 0) ∧
    (1 ≤ byteAt (tuneArgs 250 0) 1 ∧
  byteAt (tuneArgs 250 0) 1 ≤ 250 ∧
    (on (oneTune 0 fullTable.st)).st.cfg.cueCapable = true ∧
      (on (oneTune 0 fullTable.st)).st.pf.silenced = false ∧ (on (oneTune 0 fullTable.st)).st.tb.valid = true) ∧
    (Programme.tune (on (oneTune 0 fullTable.st)).st.pg (byteAt (tuneArgs 250 0) 1) =
  some { number := 250, length := 8, beat := 600, own := 1, received := 1, first := 0, state := TuneState.ready : Tune }) ∧
    ({ number := 250, length := 8, beat := 600, own := 1, received := 1, first := 0, state := TuneState.ready :
      Tune }.state ≠
  TuneState.opened) ∧
    (Performances.slotOf (on (oneTune 0 fullTable.st)).st.pf
    { cls := PerfClass.tune, number := byteAt (tuneArgs 250 0) 1, quarter := 0, day := start.day,
      minute := start.us / 60000000 : Key } =
  none) ∧
    (Performances.isRecent (on (oneTune 0 fullTable.st)).st.pf
    { cls := PerfClass.tune, number := byteAt (tuneArgs 250 0) 1, quarter := 0, day := start.day,
      minute := start.us / 60000000 : Key } =
  false) ∧
    (Performances.freeSlot (on (oneTune 0 fullTable.st)).st.pf = none) := by decide

/-- The hypotheses of `Obligations.StartMakesAndSendsACue`, clause 2.2.2.2.2.2. -/
theorem witness_start_tune :
    (State.Asked (on (oneTune 0 cueStation.st)) ask start) ∧
    (4 ≤ List.length (tuneArgs 250 0)) ∧
    (byteAt (tuneArgs 250 0) 0 = 0) ∧
    (1 ≤ byteAt (tuneArgs 250 0) 1 ∧
  byteAt (tuneArgs 250 0) 1 ≤ 250 ∧
    (on (oneTune 0 cueStation.st)).st.cfg.cueCapable = true ∧
      (on (oneTune 0 cueStation.st)).st.pf.silenced = false ∧ (on (oneTune 0 cueStation.st)).st.tb.valid = true) ∧
    (Programme.tune (on (oneTune 0 cueStation.st)).st.pg (byteAt (tuneArgs 250 0) 1) =
  some { number := 250, length := 8, beat := 600, own := 1, received := 1, first := 0, state := TuneState.ready : Tune }) ∧
    ({ number := 250, length := 8, beat := 600, own := 1, received := 1, first := 0, state := TuneState.ready :
      Tune }.state ≠
  TuneState.opened) ∧
    (Performances.slotOf (on (oneTune 0 cueStation.st)).st.pf
    { cls := PerfClass.tune, number := byteAt (tuneArgs 250 0) 1, quarter := 0, day := start.day,
      minute := start.us / 60000000 : Key } =
  none) ∧
    (Performances.isRecent (on (oneTune 0 cueStation.st)).st.pf
    { cls := PerfClass.tune, number := byteAt (tuneArgs 250 0) 1, quarter := 0, day := start.day,
      minute := start.us / 60000000 : Key } =
  false) ∧
    (Bus.mayQueue (on (oneTune 0 cueStation.st)).st.bus = true) ∧
    (List.length (on (oneTune 0 cueStation.st)).st.bus.queue < 8) ∧
    (Performances.freeSlot (on (oneTune 0 cueStation.st)).st.pf = some 1) ∧
    (TowerTime.diff (TimeBase.now (on (oneTune 0 cueStation.st)).st.tb)
    (TowerTime.plus
      (TowerTime.plus { day := start.day, us := start.us : TowerTime }
        (↑((on (oneTune 0 cueStation.st)).st.cfg.cueLead * 1000) : Int))
      (-1500000)) <
  0) := by decide

/-- The hypotheses of `Obligations.HammersAreLaunched`, clause 2.2.2.1.1.2.2.1. -/
theorem witness_launch_hour :
    (State.settled launchHourCase) ∧
    (Station.running launchHourCase.st = true) ∧
    (launchHourCase.st.channels[0]? = some (slotBell 1000001 LateClass.hour)) ∧
    ((slotBell 1000001 LateClass.hour).queue = [slotEntry 1000001 LateClass.hour]) ∧
    ((slotBell 1000001 LateClass.hour).holder = Holder.perf 1 3) ∧
    ((slotBell 1000001 LateClass.hour).waiting = none) ∧
    (1 < List.length launchHourCase.st.pf.table) ∧
    (Station.record launchHourCase.st 1 = some launchHourCase2) ∧
    ((slotBell 1000001 LateClass.hour).state = ChannelState.ready) ∧
    (0 ≤ Station.latenessOf launchHourCase.st 0 (slotEntry 1000001 LateClass.hour)) ∧
    (((slotEntry 1000001 LateClass.hour).late = LateClass.tune ∨
      (slotEntry 1000001 LateClass.hour).late = LateClass.quarter) ∧
    Station.latenessOf launchHourCase.st 0 (slotEntry 1000001 LateClass.hour) ≤ 100000 ∨
  (slotEntry 1000001 LateClass.hour).late = LateClass.toll ∨ (slotEntry 1000001 LateClass.hour).late = LateClass.hour) ∧
    (∀ (t : RunTime),
  t ∈ (slotBell 1000001 LateClass.hour).lastLaunch →
    (Station.channelCfg launchHourCase.st 0).interval * 32768 ≤ RunTime.elapsed t launchHourCase.st.tb.run * 1000) ∧
    (Station.slotFree launchHourCase.st 0 = true) ∧
    (launchHourCase2.key.cls = PerfClass.hour) ∧
    (launchHourCase2.state = PerfState.ending) := by decide

/-- The hypotheses of `Obligations.HammersFaultAndAreRechecked`, clause 2.1.1.1. -/
theorem witness_fault_told :
    (State.settled (on (recordAnd playsOne (losing (slotBell 0 LateClass.tune))))) ∧
    (Station.running (on (recordAnd playsOne (losing (slotBell 0 LateClass.tune)))).st = true) ∧
    (0 < 8) ∧
    ((on (recordAnd playsOne (losing (slotBell 0 LateClass.tune)))).st.channels[0]? =
  some (losing (slotBell 0 LateClass.tune))) ∧
    ((losing (slotBell 0 LateClass.tune)).state = ChannelState.ready ∨
  (losing (slotBell 0 LateClass.tune)).state = ChannelState.settling) ∧
    ((losing (slotBell 0 LateClass.tune)).lostAt = some { sec := 999, cyc := 29591 : RunTime }) ∧
    (100 * 32768 <
  RunTime.elapsed { sec := 999, cyc := 29591 : RunTime }
      (on (recordAnd playsOne (losing (slotBell 0 LateClass.tune)))).st.tb.run *
    1000) ∧
    (Station.record (on (recordAnd playsOne (losing (slotBell 0 LateClass.tune)))).st 1 = some playsOne) ∧
    ((losing (slotBell 0 LateClass.tune)).holder = Holder.perf 1 3) ∧
    ((losing (slotBell 0 LateClass.tune)).waiting = none) ∧
    (playsOne.key.cls = PerfClass.tune ∨ playsOne.key.cls = PerfClass.quarter) := by decide

/-- The hypotheses of `Obligations.HammersFaultAndAreRechecked`, clause 2.1.1.2. -/
theorem witness_fault_aborts_toll :
    (State.settled (on (recordAnd (holding (oneOut (toll PerfState.playing 0 1))) (losing (slotBell 0 LateClass.toll))))) ∧
    (Station.running
    (on (recordAnd (holding (oneOut (toll PerfState.playing 0 1))) (losing (slotBell 0 LateClass.toll)))).st =
  true) ∧
    (0 < 8) ∧
    ((on (recordAnd (holding (oneOut (toll PerfState.playing 0 1))) (losing (slotBell 0 LateClass.toll)))).st.channels[0]? =
  some (losing (slotBell 0 LateClass.toll))) ∧
    ((losing (slotBell 0 LateClass.toll)).state = ChannelState.ready ∨
  (losing (slotBell 0 LateClass.toll)).state = ChannelState.settling) ∧
    ((losing (slotBell 0 LateClass.toll)).lostAt = some { sec := 999, cyc := 29591 : RunTime }) ∧
    (100 * 32768 <
  RunTime.elapsed { sec := 999, cyc := 29591 : RunTime }
      (on (recordAnd (holding (oneOut (toll PerfState.playing 0 1))) (losing (slotBell 0 LateClass.toll)))).st.tb.run *
    1000) ∧
    (Station.record (on (recordAnd (holding (oneOut (toll PerfState.playing 0 1))) (losing (slotBell 0 LateClass.toll)))).st
    1 =
  some (holding (oneOut (toll PerfState.playing 0 1)))) ∧
    ((losing (slotBell 0 LateClass.toll)).holder = Holder.perf 1 3) ∧
    ((losing (slotBell 0 LateClass.toll)).waiting = none) ∧
    ((holding (oneOut (toll PerfState.playing 0 1))).key.cls = PerfClass.toll) ∧
    ((holding (oneOut (toll PerfState.playing 0 1))).marks = List.set (List.replicate 8 BellMark.none) 0 BellMark.held) ∧
    ((holding (oneOut (toll PerfState.playing 0 1))).frameState ≠ FrameState.queued) := by decide

/-- The hypotheses of `Obligations.HammersFaultAndAreRechecked`, clause 2.1.2.1. -/
theorem witness_fault_told_claimant :
    (State.settled (bothPlay Holder.panel)) ∧
    (Station.running (bothPlay Holder.panel).st = true) ∧
    (0 < 8) ∧
    ((bothPlay Holder.panel).st.channels[0]? = some (losingWaits Holder.panel)) ∧
    ((losingWaits Holder.panel).state = ChannelState.ready ∨ (losingWaits Holder.panel).state = ChannelState.settling) ∧
    ((losingWaits Holder.panel).lostAt = some { sec := 999, cyc := 29591 : RunTime }) ∧
    (100 * 32768 < RunTime.elapsed { sec := 999, cyc := 29591 : RunTime } (bothPlay Holder.panel).st.tb.run * 1000) ∧
    (Station.record (bothPlay Holder.panel).st 1 = some claimant) ∧
    ((losingWaits Holder.panel).waiting = some lateNote) ∧
    (lateNote.slot = 1) ∧
    (claimant.key.cls = PerfClass.tune ∨ claimant.key.cls = PerfClass.quarter) ∧
    ((losingWaits Holder.panel).holder = Holder.panel) := by decide

/-- The hypotheses of `Obligations.HammersFaultAndAreRechecked`, clause 2.1.2.2. -/
theorem witness_fault_told_both :
    (State.settled (bothPlay (Holder.perf 2 2))) ∧
    (Station.running (bothPlay (Holder.perf 2 2)).st = true) ∧
    (0 < 8) ∧
    ((bothPlay (Holder.perf 2 2)).st.channels[0]? = some (losingWaits (Holder.perf 2 2))) ∧
    ((losingWaits (Holder.perf 2 2)).state = ChannelState.ready ∨
  (losingWaits (Holder.perf 2 2)).state = ChannelState.settling) ∧
    ((losingWaits (Holder.perf 2 2)).lostAt = some { sec := 999, cyc := 29591 : RunTime }) ∧
    (100 * 32768 < RunTime.elapsed { sec := 999, cyc := 29591 : RunTime } (bothPlay (Holder.perf 2 2)).st.tb.run * 1000) ∧
    (Station.record (bothPlay (Holder.perf 2 2)).st 1 = some claimant) ∧
    ((losingWaits (Holder.perf 2 2)).waiting = some lateNote) ∧
    (lateNote.slot = 1) ∧
    (claimant.key.cls = PerfClass.tune ∨ claimant.key.cls = PerfClass.quarter) ∧
    ((losingWaits (Holder.perf 2 2)).holder = Holder.perf 2 2) ∧
    (2 ≠ 1) ∧
    (Station.record (bothPlay (Holder.perf 2 2)).st 2 = some faultToldBothCase) ∧
    (faultToldBothCase.key.cls = PerfClass.tune ∨ faultToldBothCase.key.cls = PerfClass.quarter) := by decide

/-- The hypotheses of `Obligations.DialsMoveTheHands`, clause 2.1.1. -/
theorem witness_dial_asks :
    (State.settled (quietDial (hands 1198) 45)) ∧
    (Station.running (quietDial (hands 1198) 45).st = true) ∧
    ((quietDial (hands 1198) 45).st.tb.dialDue = some 36000) ∧
    ((quietDial (hands 1198) 45).st.dials[0]? = some (hands 1198)) ∧
    (∀ (y : Dial), y ∈ List.drop 1 (quietDial (hands 1198) 45).st.dials → y.state = DialState.unused) ∧
    ((hands 1198).draw = DrawState.none) ∧
    ((hands 1198).pulseEnd = none) ∧
    ((hands 1198).state ≠ DialState.unused) ∧
    ((hands 1198).state ≠ DialState.faulted) ∧
    ((quietDial (hands 1198) 45).st.sup.waiting = []) ∧
    ((quietDial (hands 1198) 45).st.sup.frees = []) ∧
    ((quietDial (hands 1198) 45).st.sup.incomplete = false) ∧
    ((hands 1198).position = none ∧ 14 = 150 ∨
  (quietDial (hands 1198) 45).st.tb.valid = true ∧
    ∃ p,
      p ∈ (hands 1198).position ∧
        p < 1440 ∧
          have distance :=
            ((TimeBase.civil (quietDial (hands 1198) 45).st.tb).us / 1000000 / 30 % 1440 + 1440 - p) % 1440;
          2 ≤ distance ∧
            distance ≤ 720 ∧ 14 = min 150 (distance * (Station.dialCfg (quietDial (hands 1198) 45).st 0).interval + 10)) ∧
    (List.sum (List.map (fun e => e.amount) (quietDial (hands 1198) 45).st.sup.draws) +
    (Station.dialCfg (quietDial (hands 1198) 45).st 0).current ≤
  Station.placingLimit (quietDial (hands 1198) 45).st) ∧
    (Bus.mayQueue (quietDial (hands 1198) 45).st.bus = true) ∧
    (List.length (quietDial (hands 1198) 45).st.bus.queue < 8) := by decide

/-- The hypotheses of `Obligations.DialsMoveTheHands`, clause 2.1.1. -/
theorem witness_dial_asks2 :
    (State.settled dialAsks2Case) ∧
    (Station.running dialAsks2Case.st = true) ∧
    (dialAsks2Case.st.tb.dialDue = some 36000) ∧
    (dialAsks2Case.st.dials[0]? = some dialAsks2Case2) ∧
    (∀ (y : Dial), y ∈ List.drop 1 dialAsks2Case.st.dials → y.state = DialState.unused) ∧
    (dialAsks2Case2.draw = DrawState.none) ∧
    (dialAsks2Case2.pulseEnd = none) ∧
    (dialAsks2Case2.state ≠ DialState.unused) ∧
    (dialAsks2Case2.state ≠ DialState.faulted) ∧
    (dialAsks2Case.st.sup.waiting = []) ∧
    (dialAsks2Case.st.sup.frees = []) ∧
    (dialAsks2Case.st.sup.incomplete = false) ∧
    (dialAsks2Case2.position = none ∧ 150 = 150 ∨
  dialAsks2Case.st.tb.valid = true ∧
    ∃ p,
      p ∈ dialAsks2Case2.position ∧
        p < 1440 ∧
          have distance := ((TimeBase.civil dialAsks2Case.st.tb).us / 1000000 / 30 % 1440 + 1440 - p) % 1440;
          2 ≤ distance ∧ distance ≤ 720 ∧ 150 = min 150 (distance * (Station.dialCfg dialAsks2Case.st 0).interval + 10)) ∧
    (List.sum (List.map (fun e => e.amount) dialAsks2Case.st.sup.draws) + (Station.dialCfg dialAsks2Case.st 0).current ≤
  Station.placingLimit dialAsks2Case.st) ∧
    (Bus.mayQueue dialAsks2Case.st.bus = true) ∧
    (List.length dialAsks2Case.st.bus.queue < 8) := by decide

/-- The hypotheses of `Obligations.DialsMoveTheHands`, clause 2.1.2. -/
theorem witness_dial_waits :
    (State.settled (quietDial (hands 480) 46)) ∧
    (Station.running (quietDial (hands 480) 46).st = true) ∧
    ((quietDial (hands 480) 46).st.tb.dialDue = some 36000) ∧
    ((quietDial (hands 480) 46).st.dials[0]? = some (hands 480)) ∧
    (∀ (y : Dial), y ∈ List.drop 1 (quietDial (hands 480) 46).st.dials → y.state = DialState.unused) ∧
    ((hands 480).draw = DrawState.none) ∧
    ((hands 480).pulseEnd = none) ∧
    ((hands 480).state ≠ DialState.unused) ∧
    ((hands 480).state ≠ DialState.faulted) ∧
    ((quietDial (hands 480) 46).st.sup.waiting = []) ∧
    ((quietDial (hands 480) 46).st.sup.frees = []) ∧
    ((quietDial (hands 480) 46).st.sup.incomplete = false) ∧
    ((hands 480).position = none ∧ 150 = 150 ∨
  (quietDial (hands 480) 46).st.tb.valid = true ∧
    ∃ p,
      p ∈ (hands 480).position ∧
        p < 1440 ∧
          have distance :=
            ((TimeBase.civil (quietDial (hands 480) 46).st.tb).us / 1000000 / 30 % 1440 + 1440 - p) % 1440;
          2 ≤ distance ∧
            distance ≤ 720 ∧ 150 = min 150 (distance * (Station.dialCfg (quietDial (hands 480) 46).st 0).interval + 10)) ∧
    (Station.placingLimit (quietDial (hands 480) 46).st <
  List.sum (List.map (fun e => e.amount) (quietDial (hands 480) 46).st.sup.draws) +
    (Station.dialCfg (quietDial (hands 480) 46).st 0).current) := by decide

/-- The hypotheses of `Obligations.DialsMoveTheHands`, clause 2.2.1. -/
theorem witness_seek_pulse_begins :
    (State.settled seekPulseBeginsCase) ∧
    (Station.inService seekPulseBeginsCase.st = true) ∧
    (seekPulseBeginsCase.st.dials[0]? = some seekPulseBeginsCase2) ∧
    (∀ (p : Nat), p ∈ seekPulseBeginsCase2.position → p < 1440) ∧
    (seekPulseBeginsCase2.state = DialState.catchingUp ∨ seekPulseBeginsCase2.state = DialState.seeking) ∧
    (seekPulseBeginsCase2.pulseEnd = none) ∧
    (∀ (t : RunTime),
  t ∈ seekPulseBeginsCase2.lastBegin →
    RunTime.reached (RunTime.plus t ((Station.dialCfg seekPulseBeginsCase.st 0).interval * 32768))
        seekPulseBeginsCase.st.tb.run =
      true) := by decide

/-- The hypotheses of `Obligations.DialsMoveTheHands`, clause 2.2.2.2.2.1. -/
theorem witness_seek_goes_on :
    (State.settled (on (drawing 8 5 (withDial (seekEnds 1438))))) ∧
    (Station.running (on (drawing 8 5 (withDial (seekEnds 1438)))).st = true) ∧
    ((on (drawing 8 5 (withDial (seekEnds 1438)))).st.dials[0]? = some (seekEnds 1438)) ∧
    ((seekEnds 1438).position = none) ∧
    ((seekEnds 1438).state = DialState.seeking) ∧
    ((seekEnds 1438).draw = DrawState.live) ∧
    ((seekEnds 1438).pulseEnd = some { sec := 1000, cyc := 100 : RunTime }) ∧
    (RunTime.reached { sec := 1000, cyc := 100 : RunTime } (on (drawing 8 5 (withDial (seekEnds 1438)))).st.tb.run = true) ∧
    ((seekEnds 1438).lastBegin = some { sec := 999, cyc := 100 : RunTime }) ∧
    (RunTime.reached
    (RunTime.plus { sec := 999, cyc := 100 : RunTime }
      ((Station.dialCfg (on (drawing 8 5 (withDial (seekEnds 1438)))).st 0).interval * 32768))
    (on (drawing 8 5 (withDial (seekEnds 1438)))).st.tb.run =
  false) ∧
    (¬((seekEnds 1438).beganActive = false ∧ Station.atTwelve (on (drawing 8 5 (withDial (seekEnds 1438)))).st 0 = true)) ∧
    ((seekEnds 1438).seeks + 1 < 1440) := by decide

/-- The hypotheses of `Obligations.DialsMoveTheHands`, clause 2.2.2.2.2.2.1. -/
theorem witness_seek_finds :
    (State.settled (on (twelve (pastMidnight 21600000000 (drawing 8 5 (withDial (seekEnds 7))))))) ∧
    (Station.running (on (twelve (pastMidnight 21600000000 (drawing 8 5 (withDial (seekEnds 7)))))).st = true) ∧
    ((on (twelve (pastMidnight 21600000000 (drawing 8 5 (withDial (seekEnds 7)))))).st.dials[0]? = some (seekEnds 7)) ∧
    ((seekEnds 7).position = none) ∧
    ((seekEnds 7).state = DialState.seeking) ∧
    ((seekEnds 7).draw = DrawState.live) ∧
    ((seekEnds 7).pulseEnd = some { sec := 1000, cyc := 100 : RunTime }) ∧
    (RunTime.reached { sec := 1000, cyc := 100 : RunTime }
    (on (twelve (pastMidnight 21600000000 (drawing 8 5 (withDial (seekEnds 7)))))).st.tb.run =
  true) ∧
    ((seekEnds 7).lastBegin = some { sec := 999, cyc := 100 : RunTime }) ∧
    (RunTime.reached
    (RunTime.plus { sec := 999, cyc := 100 : RunTime }
      ((Station.dialCfg (on (twelve (pastMidnight 21600000000 (drawing 8 5 (withDial (seekEnds 7)))))).st 0).interval *
        32768))
    (on (twelve (pastMidnight 21600000000 (drawing 8 5 (withDial (seekEnds 7)))))).st.tb.run =
  false) ∧
    ((seekEnds 7).beganActive = false ∧
  Station.atTwelve (on (twelve (pastMidnight 21600000000 (drawing 8 5 (withDial (seekEnds 7)))))).st 0 = true) ∧
    ((on (twelve (pastMidnight 21600000000 (drawing 8 5 (withDial (seekEnds 7)))))).st.tb.valid = true) ∧
    (1 ≤
  (TimeBase.civil (on (twelve (pastMidnight 21600000000 (drawing 8 5 (withDial (seekEnds 7)))))).st.tb).us / 1000000 /
      30 %
    1440) ∧
    ((TimeBase.civil (on (twelve (pastMidnight 21600000000 (drawing 8 5 (withDial (seekEnds 7)))))).st.tb).us / 1000000 /
      30 %
    1440 ≤
  720) := by decide

/-- The hypotheses of `Obligations.DialsMoveTheHands`, clause 2.2.2.2.2.2.1. -/
theorem witness_seek_finds2 :
    (State.settled (on (twelve (pastMidnight 30000000 (drawing 8 5 (withDial (seekEnds 1439))))))) ∧
    (Station.running (on (twelve (pastMidnight 30000000 (drawing 8 5 (withDial (seekEnds 1439)))))).st = true) ∧
    ((on (twelve (pastMidnight 30000000 (drawing 8 5 (withDial (seekEnds 1439)))))).st.dials[0]? = some (seekEnds 1439)) ∧
    ((seekEnds 1439).position = none) ∧
    ((seekEnds 1439).state = DialState.seeking) ∧
    ((seekEnds 1439).draw = DrawState.live) ∧
    ((seekEnds 1439).pulseEnd = some { sec := 1000, cyc := 100 : RunTime }) ∧
    (RunTime.reached { sec := 1000, cyc := 100 : RunTime }
    (on (twelve (pastMidnight 30000000 (drawing 8 5 (withDial (seekEnds 1439)))))).st.tb.run =
  true) ∧
    ((seekEnds 1439).lastBegin = some { sec := 999, cyc := 100 : RunTime }) ∧
    (RunTime.reached
    (RunTime.plus { sec := 999, cyc := 100 : RunTime }
      ((Station.dialCfg (on (twelve (pastMidnight 30000000 (drawing 8 5 (withDial (seekEnds 1439)))))).st 0).interval *
        32768))
    (on (twelve (pastMidnight 30000000 (drawing 8 5 (withDial (seekEnds 1439)))))).st.tb.run =
  false) ∧
    ((seekEnds 1439).beganActive = false ∧
  Station.atTwelve (on (twelve (pastMidnight 30000000 (drawing 8 5 (withDial (seekEnds 1439)))))).st 0 = true) ∧
    ((on (twelve (pastMidnight 30000000 (drawing 8 5 (withDial (seekEnds 1439)))))).st.tb.valid = true) ∧
    (1 ≤
  (TimeBase.civil (on (twelve (pastMidnight 30000000 (drawing 8 5 (withDial (seekEnds 1439)))))).st.tb).us / 1000000 /
      30 %
    1440) ∧
    ((TimeBase.civil (on (twelve (pastMidnight 30000000 (drawing 8 5 (withDial (seekEnds 1439)))))).st.tb).us / 1000000 /
      30 %
    1440 ≤
  720) := by decide

/-- The hypotheses of `Obligations.DialsMoveTheHands`, clause 2.2.2.2.2.2.2. -/
theorem witness_seek_faults :
    (State.settled (on (drawing 8 5 (withDial (seekEnds 1439))))) ∧
    (Station.running (on (drawing 8 5 (withDial (seekEnds 1439)))).st = true) ∧
    ((on (drawing 8 5 (withDial (seekEnds 1439)))).st.dials[0]? = some (seekEnds 1439)) ∧
    ((seekEnds 1439).position = none) ∧
    ((seekEnds 1439).state = DialState.seeking) ∧
    ((seekEnds 1439).draw = DrawState.live) ∧
    ((seekEnds 1439).pulseEnd = some { sec := 1000, cyc := 100 : RunTime }) ∧
    (RunTime.reached { sec := 1000, cyc := 100 : RunTime } (on (drawing 8 5 (withDial (seekEnds 1439)))).st.tb.run = true) ∧
    ((seekEnds 1439).lastBegin = some { sec := 999, cyc := 100 : RunTime }) ∧
    (RunTime.reached
    (RunTime.plus { sec := 999, cyc := 100 : RunTime }
      ((Station.dialCfg (on (drawing 8 5 (withDial (seekEnds 1439)))).st 0).interval * 32768))
    (on (drawing 8 5 (withDial (seekEnds 1439)))).st.tb.run =
  false) ∧
    (¬((seekEnds 1439).beganActive = false ∧ Station.atTwelve (on (drawing 8 5 (withDial (seekEnds 1439)))).st 0 = true)) ∧
    ((seekEnds 1439).seeks = 1439) ∧
    ((on (drawing 8 5 (withDial (seekEnds 1439)))).st.sup.waiting = []) ∧
    (∀ (q : QueueSlot),
  q ∈ (on (drawing 8 5 (withDial (seekEnds 1439)))).st.bus.queue → Frame.isDrawOf (8 + 0) q.frame = false) ∧
    (Bus.mayQueue (on (drawing 8 5 (withDial (seekEnds 1439)))).st.bus = true) ∧
    (List.length (on (drawing 8 5 (withDial (seekEnds 1439)))).st.bus.queue < 8) := by decide

/-- The hypotheses of `Obligations.PendingDrawsWait`, clause 2.1.1. -/
theorem witness_expiry_places :
    (State.settled (expiryPlaces 30)) ∧
    (Station.running (expiryPlaces 30).st = true) ∧
    (Supply.heardEntry (expiryPlaces 30).st.sup 14 15 = some (heardDraw 150)) ∧
    ((heardDraw 150).announced = some { sec := 850, cyc := 100 : RunTime }) ∧
    (RunTime.reached (RunTime.plus { sec := 850, cyc := 100 : RunTime } ((heardDraw 150).hold * 32768))
    (expiryPlaces 30).st.tb.run =
  true) ∧
    ((expiryPlaces 30).st.sup.waiting = [waitingDraw 30 false]) ∧
    ((waitingDraw 30 false).queued = false) ∧
    ((waitingDraw 30 false).increase = false) ∧
    ((expiryPlaces 30).st.sup.incomplete = false) ∧
    (Bus.mayQueue (expiryPlaces 30).st.bus = true) ∧
    (List.length (expiryPlaces 30).st.bus.queue < 8) ∧
    (List.sum
      (List.map (fun e => e.amount)
        (List.filter (fun e => decide ¬(e.own = false ∧ e.station = 14 ∧ e.id = 15)) (expiryPlaces 30).st.sup.draws)) +
    (waitingDraw 30 false).amount ≤
  Station.placingLimit (expiryPlaces 30).st) := by decide

/-- The hypotheses of `Obligations.PendingDrawsWait`, clause 2.1.2. -/
theorem witness_expiry_waits :
    (State.settled (expiryPlaces 31)) ∧
    (Station.running (expiryPlaces 31).st = true) ∧
    (Supply.heardEntry (expiryPlaces 31).st.sup 14 15 = some (heardDraw 150)) ∧
    ((heardDraw 150).announced = some { sec := 850, cyc := 100 : RunTime }) ∧
    (RunTime.reached (RunTime.plus { sec := 850, cyc := 100 : RunTime } ((heardDraw 150).hold * 32768))
    (expiryPlaces 31).st.tb.run =
  true) ∧
    ((expiryPlaces 31).st.sup.waiting = [waitingDraw 31 false]) ∧
    ((waitingDraw 31 false).queued = false) ∧
    ((waitingDraw 31 false).increase = false) ∧
    ((expiryPlaces 31).st.sup.incomplete = false) ∧
    (Bus.mayQueue (expiryPlaces 31).st.bus = true) ∧
    (List.length (expiryPlaces 31).st.bus.queue < 8) ∧
    (Station.placingLimit (expiryPlaces 31).st <
  List.sum
      (List.map (fun e => e.amount)
        (List.filter (fun e => decide ¬(e.own = false ∧ e.station = 14 ∧ e.id = 15)) (expiryPlaces 31).st.sup.draws)) +
    (waitingDraw 31 false).amount) := by decide

/-- The hypotheses of `Obligations.PendingDrawsWait`, clause 2.2.1.1. -/
theorem witness_claim_stands :
    (State.settled (claims 50)) ∧
    (Station.running (claims 50).st = true) ∧
    (Station.Hears (claims 50).st 14 start) ∧
    (14 < 15) ∧
    (List.length [15, 50, 150] = 3) ∧
    (byteAt [15, 50, 150] 0 < 16) ∧
    (1 ≤ byteAt [15, 50, 150] 1) ∧
    (1 ≤ byteAt [15, 50, 150] 2) ∧
    (byteAt [15, 50, 150] 2 ≤ 150) ∧
    (∀ (e : DrawEntry), e ∈ (claims 50).st.sup.draws → ¬(e.station = 14 ∧ (e.own = true ∨ e.id = byteAt [15, 50, 150] 0))) ∧
    (Supply.heardCount (claims 50).st.sup < 38) ∧
    ((claims 50).st.sup.waiting = [queuedDraw 50]) ∧
    ((queuedDraw 50).queued = true) ∧
    ((queuedDraw 50).increase = false) ∧
    ((claims 50).st.sup.incomplete = false) ∧
    ((claims 50).st.bus.queue = [drawSlot 50]) ∧
    ((drawSlot 50).frame = Frame.draw (queuedDraw 50).id (queuedDraw 50).amount (queuedDraw 50).hold DrawPurpose.new) ∧
    (List.sum
      (List.map (fun e => e.amount)
        ((claims 50).st.sup.draws ++
          [{ station := 14, id := byteAt [15, 50, 150] 0, amount := byteAt [15, 50, 150] 1, own := false,
              hold := byteAt [15, 50, 150] 2, announced := some (claims 50).st.tb.run : DrawEntry }])) +
    (queuedDraw 50).amount ≤
  Station.placingLimit (claims 50).st) := by decide

/-- The hypotheses of `Obligations.PendingDrawsWait`, clause 2.2.1.2. -/
theorem witness_claim_withdrawn :
    (State.settled (claims 50)) ∧
    (Station.running (claims 50).st = true) ∧
    (Station.Hears (claims 50).st 14 start) ∧
    (14 < 15) ∧
    (List.length [15, 51, 1] = 3) ∧
    (byteAt [15, 51, 1] 0 < 16) ∧
    (1 ≤ byteAt [15, 51, 1] 1) ∧
    (1 ≤ byteAt [15, 51, 1] 2) ∧
    (byteAt [15, 51, 1] 2 ≤ 150) ∧
    (∀ (e : DrawEntry), e ∈ (claims 50).st.sup.draws → ¬(e.station = 14 ∧ (e.own = true ∨ e.id = byteAt [15, 51, 1] 0))) ∧
    (Supply.heardCount (claims 50).st.sup < 38) ∧
    ((claims 50).st.sup.waiting = [queuedDraw 50]) ∧
    ((queuedDraw 50).queued = true) ∧
    ((queuedDraw 50).increase = false) ∧
    ((claims 50).st.sup.incomplete = false) ∧
    ((claims 50).st.bus.queue = [drawSlot 50]) ∧
    ((drawSlot 50).frame = Frame.draw (queuedDraw 50).id (queuedDraw 50).amount (queuedDraw 50).hold DrawPurpose.new) ∧
    (Station.placingLimit (claims 50).st <
  List.sum
      (List.map (fun e => e.amount)
        ((claims 50).st.sup.draws ++
          [{ station := 14, id := byteAt [15, 51, 1] 0, amount := byteAt [15, 51, 1] 1, own := false,
              hold := byteAt [15, 51, 1] 2, announced := some (claims 50).st.tb.run : DrawEntry }])) +
    (queuedDraw 50).amount) := by decide

/-- The hypotheses of `Obligations.CircuitsComeOn`, clause 2.1. -/
theorem witness_dial_placed :
    (State.settled (dialDrawSent none)) ∧
    (Station.running (dialDrawSent none).st = true) ∧
    (Bus.mayQueue (dialDrawSent none).st.bus = true) ∧
    (Bus.agrees (dialDrawSent none).st.bus) ∧
    ((dialDrawSent none).st.bus.current =
  some
    { capture := start,
      role :=
        Role.sending
          { frame := Frame.draw 8 5 150 DrawPurpose.new, age := 4, errors := 0, unheard := 0 : QueueSlot }.age :
      FrameInProgress }) ∧
    (Bus.slotAt (dialDrawSent none).st.bus
    { frame := Frame.draw 8 5 150 DrawPurpose.new, age := 4, errors := 0, unheard := 0 : QueueSlot }.age =
  some { frame := Frame.draw 8 5 150 DrawPurpose.new, age := 4, errors := 0, unheard := 0 : QueueSlot }) ∧
    ((dialDrawSent none).st.bus.heldMark = false) ∧
    ({ frame := Frame.draw 8 5 150 DrawPurpose.new, age := 4, errors := 0, unheard := 0 : QueueSlot }.frame =
  Frame.draw (8 + 0) 5 150 DrawPurpose.new) ∧
    ((dialDrawSent none).st.dials[0]? = some (waitingDial none)) ∧
    ((waitingDial none).state = DialState.waitingSupply) ∧
    ((waitingDial none).draw = DrawState.pending) ∧
    ((waitingDial none).pulseEnd = none) ∧
    ((dialDrawSent none).st.sup.waiting = [dialItemWaits]) ∧
    (dialItemWaits.id = 8 + 0) ∧
    ((waitingDial none).position = none ∨
  (dialDrawSent none).st.tb.valid = true ∧
    ∃ p,
      p ∈ (waitingDial none).position ∧
        p < 1440 ∧
          have distance := ((TimeBase.civil (dialDrawSent none).st.tb).us / 1000000 / 30 % 1440 + 1440 - p) % 1440;
          1 ≤ distance ∧ distance ≤ 720) := by decide

/-- The hypotheses of `Obligations.CircuitsComeOn`, clause 2.1. -/
theorem witness_dial_placed2 :
    (State.settled (dialDrawSent (some 480))) ∧
    (Station.running (dialDrawSent (some 480)).st = true) ∧
    (Bus.mayQueue (dialDrawSent (some 480)).st.bus = true) ∧
    (Bus.agrees (dialDrawSent (some 480)).st.bus) ∧
    ((dialDrawSent (some 480)).st.bus.current =
  some
    { capture := start,
      role :=
        Role.sending
          { frame := Frame.draw 8 5 150 DrawPurpose.new, age := 4, errors := 0, unheard := 0 : QueueSlot }.age :
      FrameInProgress }) ∧
    (Bus.slotAt (dialDrawSent (some 480)).st.bus
    { frame := Frame.draw 8 5 150 DrawPurpose.new, age := 4, errors := 0, unheard := 0 : QueueSlot }.age =
  some { frame := Frame.draw 8 5 150 DrawPurpose.new, age := 4, errors := 0, unheard := 0 : QueueSlot }) ∧
    ((dialDrawSent (some 480)).st.bus.heldMark = false) ∧
    ({ frame := Frame.draw 8 5 150 DrawPurpose.new, age := 4, errors := 0, unheard := 0 : QueueSlot }.frame =
  Frame.draw (8 + 0) 5 150 DrawPurpose.new) ∧
    ((dialDrawSent (some 480)).st.dials[0]? = some (waitingDial (some 480))) ∧
    ((waitingDial (some 480)).state = DialState.waitingSupply) ∧
    ((waitingDial (some 480)).draw = DrawState.pending) ∧
    ((waitingDial (some 480)).pulseEnd = none) ∧
    ((dialDrawSent (some 480)).st.sup.waiting = [dialItemWaits]) ∧
    (dialItemWaits.id = 8 + 0) ∧
    ((waitingDial (some 480)).position = none ∨
  (dialDrawSent (some 480)).st.tb.valid = true ∧
    ∃ p,
      p ∈ (waitingDial (some 480)).position ∧
        p < 1440 ∧
          have distance :=
            ((TimeBase.civil (dialDrawSent (some 480)).st.tb).us / 1000000 / 30 % 1440 + 1440 - p) % 1440;
          1 ≤ distance ∧ distance ≤ 720) := by decide

/-- The hypotheses of `Obligations.CircuitsComeOn`, clause 2.1. -/
theorem witness_dial_placed3 :
    (State.settled (dialDrawSent (some 1199))) ∧
    (Station.running (dialDrawSent (some 1199)).st = true) ∧
    (Bus.mayQueue (dialDrawSent (some 1199)).st.bus = true) ∧
    (Bus.agrees (dialDrawSent (some 1199)).st.bus) ∧
    ((dialDrawSent (some 1199)).st.bus.current =
  some
    { capture := start,
      role :=
        Role.sending
          { frame := Frame.draw 8 5 150 DrawPurpose.new, age := 4, errors := 0, unheard := 0 : QueueSlot }.age :
      FrameInProgress }) ∧
    (Bus.slotAt (dialDrawSent (some 1199)).st.bus
    { frame := Frame.draw 8 5 150 DrawPurpose.new, age := 4, errors := 0, unheard := 0 : QueueSlot }.age =
  some { frame := Frame.draw 8 5 150 DrawPurpose.new, age := 4, errors := 0, unheard := 0 : QueueSlot }) ∧
    ((dialDrawSent (some 1199)).st.bus.heldMark = false) ∧
    ({ frame := Frame.draw 8 5 150 DrawPurpose.new, age := 4, errors := 0, unheard := 0 : QueueSlot }.frame =
  Frame.draw (8 + 0) 5 150 DrawPurpose.new) ∧
    ((dialDrawSent (some 1199)).st.dials[0]? = some (waitingDial (some 1199))) ∧
    ((waitingDial (some 1199)).state = DialState.waitingSupply) ∧
    ((waitingDial (some 1199)).draw = DrawState.pending) ∧
    ((waitingDial (some 1199)).pulseEnd = none) ∧
    ((dialDrawSent (some 1199)).st.sup.waiting = [dialItemWaits]) ∧
    (dialItemWaits.id = 8 + 0) ∧
    ((waitingDial (some 1199)).position = none ∨
  (dialDrawSent (some 1199)).st.tb.valid = true ∧
    ∃ p,
      p ∈ (waitingDial (some 1199)).position ∧
        p < 1440 ∧
          have distance :=
            ((TimeBase.civil (dialDrawSent (some 1199)).st.tb).us / 1000000 / 30 % 1440 + 1440 - p) % 1440;
          1 ≤ distance ∧ distance ≤ 720) := by decide

/-- The hypotheses of `Obligations.NotesAreAddedAndDeleted`, clause 1.2.2.2.1. -/
theorem witness_two_notes_range :
    (State.Asked (programmed (opened false)) ask start) ∧
    (5 ≤ List.length (twoNotes { offset := 15, bell := 2, velocity := 1, phrase := Phrase.none : Note })) ∧
    (9 ≤ List.length (twoNotes { offset := 15, bell := 2, velocity := 1, phrase := Phrase.none : Note })) ∧
    ((programmed (opened false)).st.pg.storing = none) ∧
    ((programmed (opened false)).st.pg.opened = some { tune := 250, lastOffset := some 16, loss := false : OpenTune }) ∧
    ({ tune := 250, lastOffset := some 16, loss := false : OpenTune }.tune =
  byteAt (twoNotes { offset := 15, bell := 2, velocity := 1, phrase := Phrase.none : Note }) 0) ∧
    ({ tune := 250, lastOffset := some 16, loss := false : OpenTune }.loss = false) ∧
    (List.length (programmed (opened false)).st.pg.notes < 2047) ∧
    (1 ≤ (noteAt (twoNotes { offset := 15, bell := 2, velocity := 1, phrase := Phrase.none : Note }) 1).bell) ∧
    ((noteAt (twoNotes { offset := 15, bell := 2, velocity := 1, phrase := Phrase.none : Note }) 1).bell ≤ 64) ∧
    (Option.getD { tune := 250, lastOffset := some 16, loss := false : OpenTune }.lastOffset 0 ≤
  (noteAt (twoNotes { offset := 15, bell := 2, velocity := 1, phrase := Phrase.none : Note }) 1).offset) ∧
    (StationBlock.isOwn (programmed (opened false)).st.cfg
    (noteAt (twoNotes { offset := 15, bell := 2, velocity := 1, phrase := Phrase.none : Note }) 1).bell =
  true) ∧
    ((noteAt (twoNotes { offset := 15, bell := 2, velocity := 1, phrase := Phrase.none : Note }) 5).offset <
  (noteAt (twoNotes { offset := 15, bell := 2, velocity := 1, phrase := Phrase.none : Note }) 1).offset) := by decide

/-- The hypotheses of `Obligations.NotesAreAddedAndDeleted`, clause 1.2.2.2.2. -/
theorem witness_two_notes_kept :
    (State.Asked (programmed (opened false)) ask start) ∧
    (5 ≤ List.length (twoNotes { offset := 16, bell := 2, velocity := 1, phrase := Phrase.none : Note })) ∧
    (9 ≤ List.length (twoNotes { offset := 16, bell := 2, velocity := 1, phrase := Phrase.none : Note })) ∧
    ((programmed (opened false)).st.pg.storing = none) ∧
    ((programmed (opened false)).st.pg.opened = some { tune := 250, lastOffset := some 16, loss := false : OpenTune }) ∧
    ({ tune := 250, lastOffset := some 16, loss := false : OpenTune }.tune =
  byteAt (twoNotes { offset := 16, bell := 2, velocity := 1, phrase := Phrase.none : Note }) 0) ∧
    ({ tune := 250, lastOffset := some 16, loss := false : OpenTune }.loss = false) ∧
    (List.length (programmed (opened false)).st.pg.notes < 2047) ∧
    (1 ≤ (noteAt (twoNotes { offset := 16, bell := 2, velocity := 1, phrase := Phrase.none : Note }) 1).bell) ∧
    ((noteAt (twoNotes { offset := 16, bell := 2, velocity := 1, phrase := Phrase.none : Note }) 1).bell ≤ 64) ∧
    (Option.getD { tune := 250, lastOffset := some 16, loss := false : OpenTune }.lastOffset 0 ≤
  (noteAt (twoNotes { offset := 16, bell := 2, velocity := 1, phrase := Phrase.none : Note }) 1).offset) ∧
    (StationBlock.isOwn (programmed (opened false)).st.cfg
    (noteAt (twoNotes { offset := 16, bell := 2, velocity := 1, phrase := Phrase.none : Note }) 1).bell =
  true) ∧
    (1 ≤ (noteAt (twoNotes { offset := 16, bell := 2, velocity := 1, phrase := Phrase.none : Note }) 5).bell) ∧
    ((noteAt (twoNotes { offset := 16, bell := 2, velocity := 1, phrase := Phrase.none : Note }) 5).bell ≤ 64) ∧
    ((noteAt (twoNotes { offset := 16, bell := 2, velocity := 1, phrase := Phrase.none : Note }) 1).offset ≤
  (noteAt (twoNotes { offset := 16, bell := 2, velocity := 1, phrase := Phrase.none : Note }) 5).offset) ∧
    (StationBlock.isOwn (programmed (opened false)).st.cfg
    (noteAt (twoNotes { offset := 16, bell := 2, velocity := 1, phrase := Phrase.none : Note }) 5).bell =
  true) := by decide

/-- The hypotheses of `Obligations.NotesAreAddedAndDeleted`, clause 2.2.2.1. -/
theorem witness_delete_playing :
    (State.Asked (on (hearing (oneTune 0 (withRecord 1 (record tuneKey PerfState.cued 0 true))))) ask start) ∧
    (1 ≤ List.length [250]) ∧
    ((on (hearing (oneTune 0 (withRecord 1 (record tuneKey PerfState.cued 0 true))))).st.pg.storing = none) ∧
    (1 ≤ byteAt [250] 0) ∧
    (byteAt [250] 0 ≤ 250) ∧
    ((∀ (t : Option Tune),
    t ∈ (on (hearing (oneTune 0 (withRecord 1 (record tuneKey PerfState.cued 0 true))))).st.pg.tunes →
      ∀ (u : Tune), u ∈ t → u.number ≠ byteAt [250] 0) ∨
  ∃ r,
    r ∈ (on (hearing (oneTune 0 (withRecord 1 (record tuneKey PerfState.cued 0 true))))).st.pf.table ∧
      ∃ x, x ∈ r ∧ (x.key.cls = PerfClass.tune ∨ x.key.cls = PerfClass.quarter) ∧ x.key.number = byteAt [250] 0) := by decide

/-- The hypotheses of `Obligations.NotesAreAddedAndDeleted`, clause 2.2.2.2. -/
theorem witness_delete_open :
    (State.Asked (programmed (opened false)) ask start) ∧
    (1 ≤ List.length [250]) ∧
    ((programmed (opened false)).st.pg.storing = none) ∧
    (1 ≤ byteAt [250] 0) ∧
    (byteAt [250] 0 ≤ 250) ∧
    (∀ (r : Option Record),
  r ∈ (programmed (opened false)).st.pf.table →
    ∀ (x : Record), x ∈ r → x.key.cls = PerfClass.tune ∨ x.key.cls = PerfClass.quarter → x.key.number ≠ byteAt [250] 0) ∧
    ((programmed (opened false)).st.pg.tunes[0]? = some (some (aTune 250 TuneState.opened))) ∧
    ((aTune 250 TuneState.opened).number = byteAt [250] 0) ∧
    (∀ (j : Nat),
  j < List.length (programmed (opened false)).st.pg.tunes →
    ∀ (u : Tune), u ∈ List.getD (programmed (opened false)).st.pg.tunes j none → u.number = byteAt [250] 0 → j = 0) := by decide

/-- The hypotheses of `Obligations.CrystalCycleAdvances`, clause 2.2.1.2.1. -/
theorem witness_rest_line :
    (base.lines.rest[7]? = some { level := false, lasted := 0 : FilteredLine }) := by decide

/-- The hypotheses of `Obligations.CrystalCycleAdvances`, clause 2.2.1.2.2.1. -/
theorem witness_twelve_line :
    (base.lines.twelve[3]? = some { level := false, lasted := 0 : FilteredLine }) := by decide

/-- The hypotheses of `Obligations.CrystalCycleAdvances`, clause 2.2.1.2.2.2. -/
theorem witness_feedback_line :
    (base.lines.feedback[5]? = some { level := false, lasted := 0 : FilteredLine }) := by decide

/-- The hypotheses of `Obligations.CrystalCycleAdvances`, clause 2.2.2.1. -/
theorem witness_line_stands :
    (true = { level := true, lasted := 65 : FilteredLine }.level) := by decide

/-- The hypotheses of `Obligations.CrystalCycleAdvances`, clause 2.2.2.2.1. -/
theorem witness_line_lasts :
    (false ≠ { level := true, lasted := 64 : FilteredLine }.level) ∧
    ({ level := true, lasted := 64 : FilteredLine }.lasted < 65) := by decide

/-- The hypotheses of `Obligations.CrystalCycleAdvances`, clause 2.2.2.2.2. -/
theorem witness_line_taken :
    (false ≠ { level := true, lasted := 65 : FilteredLine }.level) ∧
    (65 ≤ { level := true, lasted := 65 : FilteredLine }.lasted) := by decide

/-- The hypotheses of `Obligations.TimesDifferAndCross`, clause 2.2.2.2.2.1.1. -/
theorem witness_no_reconciliation :
    (latestFiring (TimeBase.now base.tb) base.pg.calendar 0 none = none) := by decide

/-- The hypotheses of `Obligations.TimesDifferAndCross`, clause 2.2.2.2.2.1.2.1. -/
theorem witness_reconciled_same :
    (latestFiring (TimeBase.now (oneEntry (offsetEntry 0) base).tb) (oneEntry (offsetEntry 0) base).pg.calendar 0 none =
  some { back := 0, minute := 600, slot := 0, offset := 0 : Firing }) ∧
    ({ back := 0, minute := 600, slot := 0, offset := 0 : Firing }.offset = (oneEntry (offsetEntry 0) base).tb.offset) := by decide

/-- The hypotheses of `Obligations.TimesDifferAndCross`, clause 2.2.2.2.2.1.2.2.1. -/
theorem witness_reconciled_idle :
    (latestFiring (TimeBase.now reconciledIdleCase.tb) reconciledIdleCase.pg.calendar 0 none =
  some { back := 0, minute := 600, slot := 0, offset := 180 : Firing }) ∧
    ({ back := 0, minute := 600, slot := 0, offset := 180 : Firing }.offset ≠ reconciledIdleCase.tb.offset) ∧
    (Station.running reconciledIdleCase = false) := by decide

/-- The hypotheses of `Obligations.TimesDifferAndCross`, clause 2.2.2.2.2.1.2.2.2. -/
theorem witness_reconciled :
    (latestFiring (TimeBase.now (oneEntry (offsetEntry 180) base).tb) (oneEntry (offsetEntry 180) base).pg.calendar 0 none =
  some { back := 0, minute := 600, slot := 0, offset := 180 : Firing }) ∧
    ({ back := 0, minute := 600, slot := 0, offset := 180 : Firing }.offset ≠ (oneEntry (offsetEntry 180) base).tb.offset) ∧
    (Station.running (oneEntry (offsetEntry 180) base) = true) := by decide

/-- The hypotheses of `Obligations.TimesDifferAndCross`, clause 2.2.2.2.2.2.1. -/
theorem witness_jump_back :
    (Station.running (oneEntry tuneEntry base) = true) ∧
    ((oneEntry tuneEntry base).tb.valid = true) ∧
    ((oneEntry tuneEntry base).tb.offset ≤ 60) := by decide

/-- The hypotheses of `Obligations.TimesDifferAndCross`, clause 2.2.2.2.2.2.2. -/
theorem witness_jump_counts :
    (Station.running jumpCountsCase = true) ∧
    (jumpCountsCase.tb.valid = true) ∧
    (0 < jumpCountsCase.tb.offset) := by decide

/-- The hypotheses of `Obligations.MarkMomentsAreArmedAndSent`, clause 2.2.1. -/
theorem witness_mark_replaced :
    (State.settled markReplacedCase) ∧
    (Station.markReached markReplacedCase.st = true) ∧
    (Station.running markReplacedCase.st = true) ∧
    (Bus.mayQueue markReplacedCase.st.bus = true) ∧
    (List.find? (fun o => Frame.isMark o.frame) markReplacedCase.st.bus.queue =
  some { frame := Frame.mark none, age := 1, errors := 0, unheard := 0 : QueueSlot }) ∧
    (∀ (c : FrameInProgress),
  c ∈ markReplacedCase.st.bus.current →
    c.role ≠ Role.sending { frame := Frame.mark none, age := 1, errors := 0, unheard := 0 : QueueSlot }.age) := by decide

/-- The hypotheses of `Obligations.MarkMomentsAreArmedAndSent`, clause 2.2.2. -/
theorem witness_mark_held :
    (State.settled markHeldCase) ∧
    (Station.markReached markHeldCase.st = true) ∧
    (Station.running markHeldCase.st = true) ∧
    (Bus.mayQueue markHeldCase.st.bus = true) ∧
    (List.find? (fun o => Frame.isMark o.frame) markHeldCase.st.bus.queue =
  some { frame := Frame.mark (some topMark), age := 4, errors := 2, unheard := 0 : QueueSlot }) ∧
    (markHeldCase.st.bus.current =
  some
    { capture := start,
      role := Role.sending { frame := Frame.mark (some topMark), age := 4, errors := 2, unheard := 0 : QueueSlot }.age :
      FrameInProgress }) := by decide

/-- The hypotheses of `Obligations.CivilBoundariesAreTaken`, clause 1.2. -/
theorem witness_dusk_light :
    (State.settled duskLightCase) ∧
    (duskLightCase.st.tb.minuteDue =
  some { civilDay := 9000, civilMinute := 600, towerDay := 9000, towerMinute := 600 : MinuteEvent }) ∧
    (duskLightCase.st.pg.calendar =
  some
      {
        entry :=
          { selector := Selector.weekly 127, work := CalendarWork.light (LightTime.dusk (-120)) 15 : CalendarEntry },
        fired := [none] : CalendarSlot } ::
    List.replicate 95 none) ∧
    (Programme.lightMinute duskLightCase.st.pg
    { civilDay := 9000, civilMinute := 600, towerDay := 9000, towerMinute := 600 : MinuteEvent }.civilDay
    duskLightCase.st.tb.offset (LightTime.dusk (-120)) =
  some { civilDay := 9000, civilMinute := 600, towerDay := 9000, towerMinute := 600 : MinuteEvent }.civilMinute) ∧
    (Selector.selects (Selector.weekly 127)
    { civilDay := 9000, civilMinute := 600, towerDay := 9000, towerMinute := 600 : MinuteEvent }.civilDay =
  true) ∧
    (firedAllows none duskLightCase.st.tb.run
    { civilDay := 9000, civilMinute := 600, towerDay := 9000, towerMinute := 600 : MinuteEvent }.civilMinute =
  true) ∧
    (∀ (c : Circuit), c ∈ duskLightCase.st.sup.circuits → c.state = CircuitState.unused) := by decide

/-- The hypotheses of `Obligations.CivilBoundariesAreTaken`, clause 2.2.2.2.2.2.2.2.2.1. -/
theorem witness_silent_fires_nothing :
    (State.settled
  (on (oneEntry { selector := Selector.weekly 127, work := CalendarWork.silent 600 660 : CalendarEntry } minuteDue.st))) ∧
    ((on
          (oneEntry { selector := Selector.weekly 127, work := CalendarWork.silent 600 660 : CalendarEntry }
            minuteDue.st)).st.tb.minuteDue =
  some { civilDay := 9000, civilMinute := 600, towerDay := 9000, towerMinute := 600 : MinuteEvent }) ∧
    ((on
          (oneEntry { selector := Selector.weekly 127, work := CalendarWork.silent 600 660 : CalendarEntry }
            minuteDue.st)).st.pg.calendar =
  some
      { entry := { selector := Selector.weekly 127, work := CalendarWork.silent 600 660 : CalendarEntry },
        fired := [none] : CalendarSlot } ::
    List.replicate 95 none) ∧
    (CalendarSlot.due
    { entry := { selector := Selector.weekly 127, work := CalendarWork.silent 600 660 : CalendarEntry },
      fired := [none] : CalendarSlot }
    (on
          (oneEntry { selector := Selector.weekly 127, work := CalendarWork.silent 600 660 : CalendarEntry }
            minuteDue.st)).st.pg
    (on
            (oneEntry { selector := Selector.weekly 127, work := CalendarWork.silent 600 660 : CalendarEntry }
              minuteDue.st)).st.cfg.cueCapable
    (on
            (oneEntry { selector := Selector.weekly 127, work := CalendarWork.silent 600 660 : CalendarEntry }
              minuteDue.st)).st.tb.offset
    (on
            (oneEntry { selector := Selector.weekly 127, work := CalendarWork.silent 600 660 : CalendarEntry }
              minuteDue.st)).st.tb.run
    { civilDay := 9000, civilMinute := 600, towerDay := 9000, towerMinute := 600 : MinuteEvent } =
  none) := by decide

/-- The hypotheses of `Obligations.CivilBoundariesAreTaken`, clause 2.2.2.2.2.2.2.2.2.1. -/
theorem witness_fired_lately :
    (State.settled firedLatelyCase) ∧
    (firedLatelyCase.st.tb.minuteDue =
  some { civilDay := 9000, civilMinute := 600, towerDay := 9000, towerMinute := 600 : MinuteEvent }) ∧
    (firedLatelyCase.st.pg.calendar =
  some
      { entry := tuneEntry,
        fired := [some { run := { sec := 4294964396, cyc := 100 : RunTime }, minute := 600 : LastFired }] :
        CalendarSlot } ::
    List.replicate 95 none) ∧
    (CalendarSlot.due
    { entry := tuneEntry,
      fired := [some { run := { sec := 4294964396, cyc := 100 : RunTime }, minute := 600 : LastFired }] : CalendarSlot }
    firedLatelyCase.st.pg firedLatelyCase.st.cfg.cueCapable firedLatelyCase.st.tb.offset firedLatelyCase.st.tb.run
    { civilDay := 9000, civilMinute := 600, towerDay := 9000, towerMinute := 600 : MinuteEvent } =
  none) := by decide

/-- The hypotheses of `Obligations.SourcesAreChosenAndDropped`, clause 2.2.2.1.1. -/
theorem witness_select_locked :
    ((peerLate RefState.locked).st.ag.refState = RefState.locked) := by decide

/-- The hypotheses of `Obligations.SourcesAreChosenAndDropped`, clause 2.2.2.1.2.1.1. -/
theorem witness_select_takes :
    ((followsNone true).ag.refState ≠ RefState.locked) ∧
    ((followsNone true).ag.followed = none) ∧
    ((followsNone true).tb.valid = true) ∧
    (Station.best (followsNone true) = some (14, oldPeer)) ∧
    (Station.accepts (followsNone true) 14 oldPeer = true) := by decide

/-- The hypotheses of `Obligations.SourcesAreChosenAndDropped`, clause 2.2.2.1.2.2.1.2. -/
theorem witness_select_unset :
    ((followsNone false).ag.refState ≠ RefState.locked) ∧
    ((followsNone false).ag.followed = none) ∧
    ((followsNone false).tb.valid = false) ∧
    (Station.best (followsNone false) = some (14, oldPeer)) := by decide

/-- The hypotheses of `Obligations.SourcesAreChosenAndDropped`, clause 2.2.2.1.2.2.1.1. -/
theorem witness_select_none :
    (selectNoneCase.ag.refState ≠ RefState.locked) ∧
    (selectNoneCase.ag.followed = none) ∧
    (selectNoneCase.tb.valid = false) ∧
    (Station.best selectNoneCase = none) := by decide

/-- The hypotheses of `Obligations.SourcesAreChosenAndDropped`, clause 2.2.2.1.2.2.2.1.1. -/
theorem witness_select_switches :
    ((followsOf 13
        { stratum := 3, followed := none, valid := true, locked := false, stepped := false,
          markRun := { sec := 990, cyc := 0 : RunTime }, theta := 5 : Peer }).ag.refState ≠
  RefState.locked) ∧
    ((followsOf 13
        { stratum := 3, followed := none, valid := true, locked := false, stepped := false,
          markRun := { sec := 990, cyc := 0 : RunTime }, theta := 5 : Peer }).ag.followed =
  some 13) ∧
    (Station.peer
    (followsOf 13
      { stratum := 3, followed := none, valid := true, locked := false, stepped := false,
        markRun := { sec := 990, cyc := 0 : RunTime }, theta := 5 : Peer })
    13 =
  some
    { stratum := 3, followed := none, valid := true, locked := false, stepped := false,
      markRun := { sec := 990, cyc := 0 : RunTime }, theta := 5 : Peer }) ∧
    (Station.accepts
    (followsOf 13
      { stratum := 3, followed := none, valid := true, locked := false, stepped := false,
        markRun := { sec := 990, cyc := 0 : RunTime }, theta := 5 : Peer })
    13
    { stratum := 3, followed := none, valid := true, locked := false, stepped := false,
      markRun := { sec := 990, cyc := 0 : RunTime }, theta := 5 : Peer } =
  true) ∧
    (Station.best
    (followsOf 13
      { stratum := 3, followed := none, valid := true, locked := false, stepped := false,
        markRun := { sec := 990, cyc := 0 : RunTime }, theta := 5 : Peer }) =
  some (14, oldPeer)) ∧
    (oldPeer.stratum <
  { stratum := 3, followed := none, valid := true, locked := false, stepped := false,
      markRun := { sec := 990, cyc := 0 : RunTime }, theta := 5 : Peer }.stratum) := by decide

/-- The hypotheses of `Obligations.SourcesAreChosenAndDropped`, clause 2.2.2.2.1. -/
theorem witness_expiry_selects :
    (State.settled (peerLate RefState.absent)) ∧
    (Station.inService (peerLate RefState.absent).st = true) ∧
    (Station.peer (peerLate RefState.absent).st 14 = some oldPeer) ∧
    (RunTime.reached (RunTime.plus oldPeer.markRun (3 * (peerLate RefState.absent).st.cfg.markPeriod * 32768))
    (peerLate RefState.absent).st.tb.run =
  true) := by decide

/-- The hypotheses of `Obligations.SourcesAreChosenAndDropped`, clause 2.2.2.2.2.1. -/
theorem witness_mark_takes :
    (State.settled (on (hearing base))) ∧
    (Station.running (on (hearing base)).st = true) ∧
    (Station.Hears (on (hearing base)).st 14 start) ∧
    (14 < 15) ∧
    (List.length (markAt 1999999 176) = 9) ∧
    ((on (hearing base)).st.ag.refState ≠ RefState.locked) ∧
    ((on (hearing base)).st.tb.valid = true) ∧
    (List.length (on (hearing base)).st.ag.peers = 15) ∧
    (bitOf (byteAt (markAt 1999999 176) 7) 4 = true) ∧
    (byteAt (markAt 1999999 176) 7 / 32 < 6) ∧
    (byteAt (markAt 1999999 176) 8 ≠ (on (hearing base)).st.cfg.number) ∧
    ((on (hearing base)).st.cfg.number < 15) ∧
    (1999999 =
  TowerTime.diff { day := word16 (markAt 1999999 176) 0, us := word40 (markAt 1999999 176) 2 : TowerTime }
    { day := start.day, us := start.us : TowerTime }) ∧
    (-2000000 < 1999999) ∧
    (1999999 < 2000000) ∧
    ((on (hearing base)).st.ag.followed = none) ∧
    (∀ (o : Option Peer), o ∈ List.set (on (hearing base)).st.ag.peers 14 none → o = none) := by decide

/-- The hypotheses of `Obligations.SourcesAreChosenAndDropped`, clause 2.2.2.2.2.2. -/
theorem witness_mark_switches :
    (State.settled
  (on
    (hearing
      (forgets 14
        (followsOf 0
          { stratum := 6, followed := none, valid := true, locked := false, stepped := false,
            markRun := { sec := 990, cyc := 0 : RunTime }, theta := 5 : Peer }))))) ∧
    (Station.running
    (on
        (hearing
          (forgets 14
            (followsOf 0
              { stratum := 6, followed := none, valid := true, locked := false, stepped := false,
                markRun := { sec := 990, cyc := 0 : RunTime }, theta := 5 : Peer })))).st =
  true) ∧
    (Station.Hears
  (on
      (hearing
        (forgets 14
          (followsOf 0
            { stratum := 6, followed := none, valid := true, locked := false, stepped := false,
              markRun := { sec := 990, cyc := 0 : RunTime }, theta := 5 : Peer })))).st
  14 start) ∧
    (14 < 15) ∧
    (List.length (markAt 1999999 176) = 9) ∧
    ((on
          (hearing
            (forgets 14
              (followsOf 0
                { stratum := 6, followed := none, valid := true, locked := false, stepped := false,
                  markRun := { sec := 990, cyc := 0 : RunTime }, theta := 5 : Peer })))).st.ag.refState ≠
  RefState.locked) ∧
    ((on
          (hearing
            (forgets 14
              (followsOf 0
                { stratum := 6, followed := none, valid := true, locked := false, stepped := false,
                  markRun := { sec := 990, cyc := 0 : RunTime }, theta := 5 : Peer })))).st.tb.valid =
  true) ∧
    (List.length
    (on
            (hearing
              (forgets 14
                (followsOf 0
                  { stratum := 6, followed := none, valid := true, locked := false, stepped := false,
                    markRun := { sec := 990, cyc := 0 : RunTime }, theta := 5 : Peer })))).st.ag.peers =
  15) ∧
    (bitOf (byteAt (markAt 1999999 176) 7) 4 = true) ∧
    (byteAt (markAt 1999999 176) 7 / 32 < 6) ∧
    (byteAt (markAt 1999999 176) 8 ≠
  (on
          (hearing
            (forgets 14
              (followsOf 0
                { stratum := 6, followed := none, valid := true, locked := false, stepped := false,
                  markRun := { sec := 990, cyc := 0 : RunTime }, theta := 5 : Peer })))).st.cfg.number) ∧
    ((on
          (hearing
            (forgets 14
              (followsOf 0
                { stratum := 6, followed := none, valid := true, locked := false, stepped := false,
                  markRun := { sec := 990, cyc := 0 : RunTime }, theta := 5 : Peer })))).st.cfg.number <
  15) ∧
    (1999999 =
  TowerTime.diff { day := word16 (markAt 1999999 176) 0, us := word40 (markAt 1999999 176) 2 : TowerTime }
    { day := start.day, us := start.us : TowerTime }) ∧
    (-2000000 < 1999999) ∧
    (1999999 < 2000000) ∧
    ((on
          (hearing
            (forgets 14
              (followsOf 0
                { stratum := 6, followed := none, valid := true, locked := false, stepped := false,
                  markRun := { sec := 990, cyc := 0 : RunTime }, theta := 5 : Peer })))).st.ag.followed =
  some 0) ∧
    (0 ≠ 14) ∧
    (Station.peer
    (on
        (hearing
          (forgets 14
            (followsOf 0
              { stratum := 6, followed := none, valid := true, locked := false, stepped := false,
                markRun := { sec := 990, cyc := 0 : RunTime }, theta := 5 : Peer })))).st
    0 =
  some
    { stratum := 6, followed := none, valid := true, locked := false, stepped := false,
      markRun := { sec := 990, cyc := 0 : RunTime }, theta := 5 : Peer }) ∧
    (Station.accepts
    (on
        (hearing
          (forgets 14
            (followsOf 0
              { stratum := 6, followed := none, valid := true, locked := false, stepped := false,
                markRun := { sec := 990, cyc := 0 : RunTime }, theta := 5 : Peer })))).st
    0
    { stratum := 6, followed := none, valid := true, locked := false, stepped := false,
      markRun := { sec := 990, cyc := 0 : RunTime }, theta := 5 : Peer } =
  true) ∧
    (byteAt (markAt 1999999 176) 7 / 32 <
  { stratum := 6, followed := none, valid := true, locked := false, stepped := false,
      markRun := { sec := 990, cyc := 0 : RunTime }, theta := 5 : Peer }.stratum) ∧
    (∀ (o : Option Peer),
  o ∈
      List.set
        (List.set
          (on
                  (hearing
                    (forgets 14
                      (followsOf 0
                        { stratum := 6, followed := none, valid := true, locked := false, stepped := false,
                          markRun := { sec := 990, cyc := 0 : RunTime }, theta := 5 : Peer })))).st.ag.peers
          14 none)
        0 none →
    o = none) := by decide

/-- The hypotheses of `Obligations.HammersAreLaunched`, clause 2.2.2.1.1.2.2.2.1. -/
theorem witness_launch_toll_on :
    (State.settled (on (recordAnd (oneOut (toll PerfState.playing 0 3)) (slotBell 0 LateClass.toll)))) ∧
    (Station.running (on (recordAnd (oneOut (toll PerfState.playing 0 3)) (slotBell 0 LateClass.toll))).st = true) ∧
    ((on (recordAnd (oneOut (toll PerfState.playing 0 3)) (slotBell 0 LateClass.toll))).st.channels[0]? =
  some (slotBell 0 LateClass.toll)) ∧
    ((slotBell 0 LateClass.toll).queue = [slotEntry 0 LateClass.toll]) ∧
    ((slotBell 0 LateClass.toll).holder = Holder.perf 1 3) ∧
    ((slotBell 0 LateClass.toll).waiting = none) ∧
    (1 < List.length (on (recordAnd (oneOut (toll PerfState.playing 0 3)) (slotBell 0 LateClass.toll))).st.pf.table) ∧
    (Station.record (on (recordAnd (oneOut (toll PerfState.playing 0 3)) (slotBell 0 LateClass.toll))).st 1 =
  some (oneOut (toll PerfState.playing 0 3))) ∧
    ((slotBell 0 LateClass.toll).state = ChannelState.ready) ∧
    (0 ≤
  Station.latenessOf (on (recordAnd (oneOut (toll PerfState.playing 0 3)) (slotBell 0 LateClass.toll))).st 0
    (slotEntry 0 LateClass.toll)) ∧
    (((slotEntry 0 LateClass.toll).late = LateClass.tune ∨ (slotEntry 0 LateClass.toll).late = LateClass.quarter) ∧
    Station.latenessOf (on (recordAnd (oneOut (toll PerfState.playing 0 3)) (slotBell 0 LateClass.toll))).st 0
        (slotEntry 0 LateClass.toll) ≤
      100000 ∨
  (slotEntry 0 LateClass.toll).late = LateClass.toll ∨ (slotEntry 0 LateClass.toll).late = LateClass.hour) ∧
    (∀ (t : RunTime),
  t ∈ (slotBell 0 LateClass.toll).lastLaunch →
    (Station.channelCfg (on (recordAnd (oneOut (toll PerfState.playing 0 3)) (slotBell 0 LateClass.toll))).st
            0).interval *
        32768 ≤
      RunTime.elapsed t (on (recordAnd (oneOut (toll PerfState.playing 0 3)) (slotBell 0 LateClass.toll))).st.tb.run *
        1000) ∧
    (Station.slotFree (on (recordAnd (oneOut (toll PerfState.playing 0 3)) (slotBell 0 LateClass.toll))).st 0 = true) ∧
    ((oneOut (toll PerfState.playing 0 3)).key.cls = PerfClass.toll ∨
  (oneOut (toll PerfState.playing 0 3)).key.cls = PerfClass.hour) ∧
    ((oneOut (toll PerfState.playing 0 3)).state = PerfState.playing) := by decide

/-- The hypotheses of `Obligations.HammersAreLaunched`, clause 2.2.2.1.1.2.2.2.2. -/
theorem witness_launch_toll_next :
    (State.settled (on (recordAnd (oneOut (toll PerfState.playing 0 3)) (slotBell 0 LateClass.toll)))) ∧
    (Station.running (on (recordAnd (oneOut (toll PerfState.playing 0 3)) (slotBell 0 LateClass.toll))).st = true) ∧
    ((on (recordAnd (oneOut (toll PerfState.playing 0 3)) (slotBell 0 LateClass.toll))).st.channels[0]? =
  some (slotBell 0 LateClass.toll)) ∧
    ((slotBell 0 LateClass.toll).queue = [slotEntry 0 LateClass.toll]) ∧
    ((slotBell 0 LateClass.toll).holder = Holder.perf 1 3) ∧
    ((slotBell 0 LateClass.toll).waiting = none) ∧
    (1 < List.length (on (recordAnd (oneOut (toll PerfState.playing 0 3)) (slotBell 0 LateClass.toll))).st.pf.table) ∧
    (Station.record (on (recordAnd (oneOut (toll PerfState.playing 0 3)) (slotBell 0 LateClass.toll))).st 1 =
  some (oneOut (toll PerfState.playing 0 3))) ∧
    ((slotBell 0 LateClass.toll).state = ChannelState.ready) ∧
    (0 ≤
  Station.latenessOf (on (recordAnd (oneOut (toll PerfState.playing 0 3)) (slotBell 0 LateClass.toll))).st 0
    (slotEntry 0 LateClass.toll)) ∧
    (((slotEntry 0 LateClass.toll).late = LateClass.tune ∨ (slotEntry 0 LateClass.toll).late = LateClass.quarter) ∧
    Station.latenessOf (on (recordAnd (oneOut (toll PerfState.playing 0 3)) (slotBell 0 LateClass.toll))).st 0
        (slotEntry 0 LateClass.toll) ≤
      100000 ∨
  (slotEntry 0 LateClass.toll).late = LateClass.toll ∨ (slotEntry 0 LateClass.toll).late = LateClass.hour) ∧
    (∀ (t : RunTime),
  t ∈ (slotBell 0 LateClass.toll).lastLaunch →
    (Station.channelCfg (on (recordAnd (oneOut (toll PerfState.playing 0 3)) (slotBell 0 LateClass.toll))).st
            0).interval *
        32768 ≤
      RunTime.elapsed t (on (recordAnd (oneOut (toll PerfState.playing 0 3)) (slotBell 0 LateClass.toll))).st.tb.run *
        1000) ∧
    (Station.slotFree (on (recordAnd (oneOut (toll PerfState.playing 0 3)) (slotBell 0 LateClass.toll))).st 0 = true) ∧
    ((oneOut (toll PerfState.playing 0 3)).key.cls = PerfClass.toll ∨
  (oneOut (toll PerfState.playing 0 3)).key.cls = PerfClass.hour) ∧
    ((oneOut (toll PerfState.playing 0 3)).state = PerfState.playing) ∧
    ((if (oneOut (toll PerfState.playing 0 3)).key.cls = PerfClass.hour then
    (on (recordAnd (oneOut (toll PerfState.playing 0 3)) (slotBell 0 LateClass.toll))).st.cfg.hourBell
  else some (oneOut (toll PerfState.playing 0 3)).key.number) =
  some 1) ∧
    (StationBlock.channelOf (on (recordAnd (oneOut (toll PerfState.playing 0 3)) (slotBell 0 LateClass.toll))).st.cfg 1 =
  some 0) ∧
    (1500000 <
  TowerTime.diff
    (TowerTime.plus
      (TowerTime.plus
        (if
            (oneOut (toll PerfState.playing 0 3)).key.cls = PerfClass.toll ∧
              Station.reportedLateness
                  (on (recordAnd (oneOut (toll PerfState.playing 0 3)) (slotBell 0 LateClass.toll))).st 0
                  (slotEntry 0 LateClass.toll) ≤
                1000000 then
          (oneOut (toll PerfState.playing 0 3)).nextTarget
        else
          TowerTime.plus
            (TimeBase.now (on (recordAnd (oneOut (toll PerfState.playing 0 3)) (slotBell 0 LateClass.toll))).st.tb)
            (↑((Station.channelCfg (on (recordAnd (oneOut (toll PerfState.playing 0 3)) (slotBell 0 LateClass.toll))).st
                      0).lead *
                  1000) :
              Int))
        (↑((oneOut (toll PerfState.playing 0 3)).beat * 1000) : Int))
      (-(↑((Station.channelCfg (on (recordAnd (oneOut (toll PerfState.playing 0 3)) (slotBell 0 LateClass.toll))).st
                  0).lead *
              1000) :
          Int)))
    (TimeBase.now (on (recordAnd (oneOut (toll PerfState.playing 0 3)) (slotBell 0 LateClass.toll))).st.tb)) := by decide

/-- The hypotheses of `Obligations.HammersAreLaunched`, clause 2.2.2.1.1.2.2.2.1. -/
theorem witness_launch_hour_on :
    (State.settled launchHourOnCase) ∧
    (Station.running launchHourOnCase.st = true) ∧
    (launchHourOnCase.st.channels[0]? = some (slotBell 5000000 LateClass.hour)) ∧
    ((slotBell 5000000 LateClass.hour).queue = [slotEntry 5000000 LateClass.hour]) ∧
    ((slotBell 5000000 LateClass.hour).holder = Holder.perf 1 3) ∧
    ((slotBell 5000000 LateClass.hour).waiting = none) ∧
    (1 < List.length launchHourOnCase.st.pf.table) ∧
    (Station.record launchHourOnCase.st 1 = some launchHourOnCase2) ∧
    ((slotBell 5000000 LateClass.hour).state = ChannelState.ready) ∧
    (0 ≤ Station.latenessOf launchHourOnCase.st 0 (slotEntry 5000000 LateClass.hour)) ∧
    (((slotEntry 5000000 LateClass.hour).late = LateClass.tune ∨
      (slotEntry 5000000 LateClass.hour).late = LateClass.quarter) ∧
    Station.latenessOf launchHourOnCase.st 0 (slotEntry 5000000 LateClass.hour) ≤ 100000 ∨
  (slotEntry 5000000 LateClass.hour).late = LateClass.toll ∨ (slotEntry 5000000 LateClass.hour).late = LateClass.hour) ∧
    (∀ (t : RunTime),
  t ∈ (slotBell 5000000 LateClass.hour).lastLaunch →
    (Station.channelCfg launchHourOnCase.st 0).interval * 32768 ≤ RunTime.elapsed t launchHourOnCase.st.tb.run * 1000) ∧
    (Station.slotFree launchHourOnCase.st 0 = true) ∧
    (launchHourOnCase2.key.cls = PerfClass.toll ∨ launchHourOnCase2.key.cls = PerfClass.hour) ∧
    (launchHourOnCase2.state = PerfState.playing) := by decide

/-- The hypotheses of `Obligations.DialSetReplacesThePosition`, clause 2.2.2.2.2.1.1. -/
theorem witness_set_time_unset :
    (State.Asked setTimeUnsetCase ask start) ∧
    (ask.target = setTimeUnsetCase.st.cfg.number) ∧
    (3 ≤ List.length (dialArgs 0 1199)) ∧
    (byteAt (dialArgs 0 1199) 0 ≤ 3) ∧
    (word16 (dialArgs 0 1199) 1 ≤ 1439 ∨ word16 (dialArgs 0 1199) 1 = 65535) ∧
    (setTimeUnsetCase.st.dials[byteAt (dialArgs 0 1199) 0]? = some setTimeUnsetCase2) ∧
    (setTimeUnsetCase2.state ≠ DialState.unused) ∧
    (setTimeUnsetCase2.pulseEnd = none) ∧
    (setTimeUnsetCase2.draw = DrawState.none) ∧
    (word16 (dialArgs 0 1199) 1 ≠ 65535) ∧
    (setTimeUnsetCase.st.tb.valid = false) := by decide

/-- The hypotheses of `Obligations.DialSetReplacesThePosition`, clause 2.2.2.2.2.1.2.1. -/
theorem witness_set_ahead :
    (State.Asked setAheadCase ask start) ∧
    (ask.target = setAheadCase.st.cfg.number) ∧
    (3 ≤ List.length (dialArgs 0 479)) ∧
    (byteAt (dialArgs 0 479) 0 ≤ 3) ∧
    (word16 (dialArgs 0 479) 1 ≤ 1439 ∨ word16 (dialArgs 0 479) 1 = 65535) ∧
    (setAheadCase.st.dials[byteAt (dialArgs 0 479) 0]? = some setTimeUnsetCase2) ∧
    (setTimeUnsetCase2.state ≠ DialState.unused) ∧
    (setTimeUnsetCase2.pulseEnd = none) ∧
    (setTimeUnsetCase2.draw = DrawState.none) ∧
    (word16 (dialArgs 0 479) 1 ≠ 65535) ∧
    (setAheadCase.st.tb.valid = true) ∧
    (720 < ((TimeBase.civil setAheadCase.st.tb).us / 1000000 / 30 % 1440 + 1440 - word16 (dialArgs 0 479) 1) % 1440) := by decide

/-- The hypotheses of `Obligations.DialSetReplacesThePosition`, clause 2.2.2.2.2.1.2.2.1. -/
theorem witness_set_one :
    (State.Asked setAheadCase ask start) ∧
    (ask.target = setAheadCase.st.cfg.number) ∧
    (3 ≤ List.length (dialArgs 0 1199)) ∧
    (byteAt (dialArgs 0 1199) 0 ≤ 3) ∧
    (word16 (dialArgs 0 1199) 1 ≤ 1439 ∨ word16 (dialArgs 0 1199) 1 = 65535) ∧
    (setAheadCase.st.dials[byteAt (dialArgs 0 1199) 0]? = some setTimeUnsetCase2) ∧
    (setTimeUnsetCase2.state ≠ DialState.unused) ∧
    (setTimeUnsetCase2.pulseEnd = none) ∧
    (setTimeUnsetCase2.draw = DrawState.none) ∧
    (word16 (dialArgs 0 1199) 1 ≠ 65535) ∧
    (setAheadCase.st.tb.valid = true) ∧
    (((TimeBase.civil setAheadCase.st.tb).us / 1000000 / 30 % 1440 + 1440 - word16 (dialArgs 0 1199) 1) % 1440 = 1) := by decide

/-- The hypotheses of `Obligations.DialSetReplacesThePosition`, clause 2.2.2.2.2.1.2.2.2.1. -/
theorem witness_set_behind :
    (State.Asked setAheadCase ask start) ∧
    (ask.target = setAheadCase.st.cfg.number) ∧
    (3 ≤ List.length (dialArgs 0 480)) ∧
    (byteAt (dialArgs 0 480) 0 ≤ 3) ∧
    (word16 (dialArgs 0 480) 1 ≤ 1439 ∨ word16 (dialArgs 0 480) 1 = 65535) ∧
    (setAheadCase.st.dials[byteAt (dialArgs 0 480) 0]? = some setTimeUnsetCase2) ∧
    (setTimeUnsetCase2.state ≠ DialState.unused) ∧
    (setTimeUnsetCase2.pulseEnd = none) ∧
    (setTimeUnsetCase2.draw = DrawState.none) ∧
    (word16 (dialArgs 0 480) 1 = 65535 ∧ 150 = 150 ∨
  word16 (dialArgs 0 480) 1 ≠ 65535 ∧
    setAheadCase.st.tb.valid = true ∧
      2 ≤ ((TimeBase.civil setAheadCase.st.tb).us / 1000000 / 30 % 1440 + 1440 - word16 (dialArgs 0 480) 1) % 1440 ∧
        ((TimeBase.civil setAheadCase.st.tb).us / 1000000 / 30 % 1440 + 1440 - word16 (dialArgs 0 480) 1) % 1440 ≤ 720 ∧
          150 =
            min 150
              (((TimeBase.civil setAheadCase.st.tb).us / 1000000 / 30 % 1440 + 1440 - word16 (dialArgs 0 480) 1) %
                    1440 *
                  (Station.dialCfg setAheadCase.st (byteAt (dialArgs 0 480) 0)).interval +
                10)) ∧
    (setAheadCase.st.sup.waiting = []) ∧
    (setAheadCase.st.sup.frees = []) ∧
    (setAheadCase.st.sup.incomplete = false) ∧
    (List.sum (List.map (fun e => e.amount) setAheadCase.st.sup.draws) +
    (Station.dialCfg setAheadCase.st (byteAt (dialArgs 0 480) 0)).current ≤
  Station.placingLimit setAheadCase.st) ∧
    (Bus.mayQueue setAheadCase.st.bus = true) ∧
    (List.length setAheadCase.st.bus.queue < 8) := by decide

/-- The hypotheses of `Obligations.DialSetReplacesThePosition`, clause 2.2.2.2.2.1.2.2.2.1. -/
theorem witness_set_unknown :
    (State.Asked setAheadCase ask start) ∧
    (ask.target = setAheadCase.st.cfg.number) ∧
    (3 ≤ List.length (dialArgs 0 65535)) ∧
    (byteAt (dialArgs 0 65535) 0 ≤ 3) ∧
    (word16 (dialArgs 0 65535) 1 ≤ 1439 ∨ word16 (dialArgs 0 65535) 1 = 65535) ∧
    (setAheadCase.st.dials[byteAt (dialArgs 0 65535) 0]? = some setTimeUnsetCase2) ∧
    (setTimeUnsetCase2.state ≠ DialState.unused) ∧
    (setTimeUnsetCase2.pulseEnd = none) ∧
    (setTimeUnsetCase2.draw = DrawState.none) ∧
    (word16 (dialArgs 0 65535) 1 = 65535 ∧ 150 = 150 ∨
  word16 (dialArgs 0 65535) 1 ≠ 65535 ∧
    setAheadCase.st.tb.valid = true ∧
      2 ≤ ((TimeBase.civil setAheadCase.st.tb).us / 1000000 / 30 % 1440 + 1440 - word16 (dialArgs 0 65535) 1) % 1440 ∧
        ((TimeBase.civil setAheadCase.st.tb).us / 1000000 / 30 % 1440 + 1440 - word16 (dialArgs 0 65535) 1) % 1440 ≤
            720 ∧
          150 =
            min 150
              (((TimeBase.civil setAheadCase.st.tb).us / 1000000 / 30 % 1440 + 1440 - word16 (dialArgs 0 65535) 1) %
                    1440 *
                  (Station.dialCfg setAheadCase.st (byteAt (dialArgs 0 65535) 0)).interval +
                10)) ∧
    (setAheadCase.st.sup.waiting = []) ∧
    (setAheadCase.st.sup.frees = []) ∧
    (setAheadCase.st.sup.incomplete = false) ∧
    (List.sum (List.map (fun e => e.amount) setAheadCase.st.sup.draws) +
    (Station.dialCfg setAheadCase.st (byteAt (dialArgs 0 65535) 0)).current ≤
  Station.placingLimit setAheadCase.st) ∧
    (Bus.mayQueue setAheadCase.st.bus = true) ∧
    (List.length setAheadCase.st.bus.queue < 8) := by decide

/-- The hypotheses of `Obligations.DialSetReplacesThePosition`, clause 2.2.2.2.2.1.2.2.2.2. -/
theorem witness_set_waits :
    (State.Asked setWaitsCase ask start) ∧
    (ask.target = setWaitsCase.st.cfg.number) ∧
    (3 ≤ List.length (dialArgs 0 1198)) ∧
    (byteAt (dialArgs 0 1198) 0 ≤ 3) ∧
    (word16 (dialArgs 0 1198) 1 ≤ 1439 ∨ word16 (dialArgs 0 1198) 1 = 65535) ∧
    (setWaitsCase.st.dials[byteAt (dialArgs 0 1198) 0]? = some setTimeUnsetCase2) ∧
    (setTimeUnsetCase2.state ≠ DialState.unused) ∧
    (setTimeUnsetCase2.pulseEnd = none) ∧
    (setTimeUnsetCase2.draw = DrawState.none) ∧
    (word16 (dialArgs 0 1198) 1 = 65535 ∧ 14 = 150 ∨
  word16 (dialArgs 0 1198) 1 ≠ 65535 ∧
    setWaitsCase.st.tb.valid = true ∧
      2 ≤ ((TimeBase.civil setWaitsCase.st.tb).us / 1000000 / 30 % 1440 + 1440 - word16 (dialArgs 0 1198) 1) % 1440 ∧
        ((TimeBase.civil setWaitsCase.st.tb).us / 1000000 / 30 % 1440 + 1440 - word16 (dialArgs 0 1198) 1) % 1440 ≤
            720 ∧
          14 =
            min 150
              (((TimeBase.civil setWaitsCase.st.tb).us / 1000000 / 30 % 1440 + 1440 - word16 (dialArgs 0 1198) 1) %
                    1440 *
                  (Station.dialCfg setWaitsCase.st (byteAt (dialArgs 0 1198) 0)).interval +
                10)) ∧
    (setWaitsCase.st.sup.waiting = []) ∧
    (setWaitsCase.st.sup.frees = []) ∧
    (setWaitsCase.st.sup.incomplete = false) ∧
    (Station.placingLimit setWaitsCase.st <
  List.sum (List.map (fun e => e.amount) setWaitsCase.st.sup.draws) +
    (Station.dialCfg setWaitsCase.st (byteAt (dialArgs 0 1198) 0)).current) := by decide

/-- The hypotheses of `Obligations.DialSetReplacesThePosition`, clause 2.2.2.2.2.2.1.1. -/
theorem witness_set_seeks :
    (State.Asked setSeeksCase ask start) ∧
    (ask.target = setSeeksCase.st.cfg.number) ∧
    (3 ≤ List.length (dialArgs 0 65535)) ∧
    (byteAt (dialArgs 0 65535) 0 ≤ 3) ∧
    (word16 (dialArgs 0 65535) 1 ≤ 1439 ∨ word16 (dialArgs 0 65535) 1 = 65535) ∧
    (setSeeksCase.st.dials[byteAt (dialArgs 0 65535) 0]? = some setSeeksCase2) ∧
    (setSeeksCase2.state ≠ DialState.unused) ∧
    (setSeeksCase2.pulseEnd = none) ∧
    (setSeeksCase2.draw = DrawState.live) ∧
    (setSeeksCase2.state ≠ DialState.faulted) ∧
    (word16 (dialArgs 0 65535) 1 = 65535) := by decide

/-- The hypotheses of `Obligations.DialSetReplacesThePosition`, clause 2.2.2.2.2.2.1.2.1. -/
theorem witness_set_goes_on :
    (State.Asked setSeeksCase ask start) ∧
    (ask.target = setSeeksCase.st.cfg.number) ∧
    (3 ≤ List.length (dialArgs 0 480)) ∧
    (byteAt (dialArgs 0 480) 0 ≤ 3) ∧
    (word16 (dialArgs 0 480) 1 ≤ 1439 ∨ word16 (dialArgs 0 480) 1 = 65535) ∧
    (setSeeksCase.st.dials[byteAt (dialArgs 0 480) 0]? = some setSeeksCase2) ∧
    (setSeeksCase2.state ≠ DialState.unused) ∧
    (setSeeksCase2.pulseEnd = none) ∧
    (setSeeksCase2.draw = DrawState.live) ∧
    (setSeeksCase2.state ≠ DialState.faulted) ∧
    (word16 (dialArgs 0 480) 1 ≠ 65535) ∧
    (setSeeksCase.st.tb.valid = true) ∧
    (1 ≤ ((TimeBase.civil setSeeksCase.st.tb).us / 1000000 / 30 % 1440 + 1440 - word16 (dialArgs 0 480) 1) % 1440) ∧
    (((TimeBase.civil setSeeksCase.st.tb).us / 1000000 / 30 % 1440 + 1440 - word16 (dialArgs 0 480) 1) % 1440 ≤ 720) := by decide

/-- The hypotheses of `Obligations.DialSetReplacesThePosition`, clause 2.2.2.2.2.2.1.2.2. -/
theorem witness_set_arrives :
    (State.Asked setSeeksCase ask start) ∧
    (ask.target = setSeeksCase.st.cfg.number) ∧
    (3 ≤ List.length (dialArgs 0 1200)) ∧
    (byteAt (dialArgs 0 1200) 0 ≤ 3) ∧
    (word16 (dialArgs 0 1200) 1 ≤ 1439 ∨ word16 (dialArgs 0 1200) 1 = 65535) ∧
    (setSeeksCase.st.dials[byteAt (dialArgs 0 1200) 0]? = some setSeeksCase2) ∧
    (setSeeksCase2.state ≠ DialState.unused) ∧
    (setSeeksCase2.pulseEnd = none) ∧
    (setSeeksCase2.draw = DrawState.live) ∧
    (setSeeksCase2.state ≠ DialState.faulted) ∧
    (word16 (dialArgs 0 1200) 1 ≠ 65535) ∧
    (setSeeksCase.st.tb.valid = true) ∧
    (((TimeBase.civil setSeeksCase.st.tb).us / 1000000 / 30 % 1440 + 1440 - word16 (dialArgs 0 1200) 1) % 1440 = 0 ∨
  720 < ((TimeBase.civil setSeeksCase.st.tb).us / 1000000 / 30 % 1440 + 1440 - word16 (dialArgs 0 1200) 1) % 1440) ∧
    (setSeeksCase.st.sup.waiting = []) ∧
    (∀ (q : QueueSlot), q ∈ setSeeksCase.st.bus.queue → Frame.isDrawOf (8 + byteAt (dialArgs 0 1200) 0) q.frame = false) ∧
    (Bus.mayQueue setSeeksCase.st.bus = true) ∧
    (List.length setSeeksCase.st.bus.queue < 8) := by decide

/-- The hypotheses of `Obligations.DialSetReplacesThePosition`, clause 2.2.2.2.2.2.1.2.2. -/
theorem witness_set_holds :
    (State.Asked setSeeksCase ask start) ∧
    (ask.target = setSeeksCase.st.cfg.number) ∧
    (3 ≤ List.length (dialArgs 0 479)) ∧
    (byteAt (dialArgs 0 479) 0 ≤ 3) ∧
    (word16 (dialArgs 0 479) 1 ≤ 1439 ∨ word16 (dialArgs 0 479) 1 = 65535) ∧
    (setSeeksCase.st.dials[byteAt (dialArgs 0 479) 0]? = some setSeeksCase2) ∧
    (setSeeksCase2.state ≠ DialState.unused) ∧
    (setSeeksCase2.pulseEnd = none) ∧
    (setSeeksCase2.draw = DrawState.live) ∧
    (setSeeksCase2.state ≠ DialState.faulted) ∧
    (word16 (dialArgs 0 479) 1 ≠ 65535) ∧
    (setSeeksCase.st.tb.valid = true) ∧
    (((TimeBase.civil setSeeksCase.st.tb).us / 1000000 / 30 % 1440 + 1440 - word16 (dialArgs 0 479) 1) % 1440 = 0 ∨
  720 < ((TimeBase.civil setSeeksCase.st.tb).us / 1000000 / 30 % 1440 + 1440 - word16 (dialArgs 0 479) 1) % 1440) ∧
    (setSeeksCase.st.sup.waiting = []) ∧
    (∀ (q : QueueSlot), q ∈ setSeeksCase.st.bus.queue → Frame.isDrawOf (8 + byteAt (dialArgs 0 479) 0) q.frame = false) ∧
    (Bus.mayQueue setSeeksCase.st.bus = true) ∧
    (List.length setSeeksCase.st.bus.queue < 8) := by decide

/-- The hypotheses of `Obligations.DialSetReplacesThePosition`, clause 2.2.2.2.2.2.2.1. -/
theorem witness_set_still_waits :
    (State.Asked setStillWaitsCase ask start) ∧
    (ask.target = setStillWaitsCase.st.cfg.number) ∧
    (3 ≤ List.length (dialArgs 0 1198)) ∧
    (byteAt (dialArgs 0 1198) 0 ≤ 3) ∧
    (word16 (dialArgs 0 1198) 1 ≤ 1439 ∨ word16 (dialArgs 0 1198) 1 = 65535) ∧
    (setStillWaitsCase.st.dials[byteAt (dialArgs 0 1198) 0]? = some setStillWaitsCase2) ∧
    (setStillWaitsCase2.state ≠ DialState.unused) ∧
    (setStillWaitsCase2.pulseEnd = none) ∧
    (setStillWaitsCase2.draw = DrawState.pending) ∧
    (setStillWaitsCase2.state ≠ DialState.faulted) ∧
    (word16 (dialArgs 0 1198) 1 = 65535 ∨
  setStillWaitsCase.st.tb.valid = true ∧
    2 ≤ ((TimeBase.civil setStillWaitsCase.st.tb).us / 1000000 / 30 % 1440 + 1440 - word16 (dialArgs 0 1198) 1) % 1440 ∧
      ((TimeBase.civil setStillWaitsCase.st.tb).us / 1000000 / 30 % 1440 + 1440 - word16 (dialArgs 0 1198) 1) % 1440 ≤
        720) := by decide

/-- The hypotheses of `Obligations.DialSetReplacesThePosition`, clause 2.2.2.2.2.2.2.2. -/
theorem witness_set_cancels :
    (State.Asked setStillWaitsCase ask start) ∧
    (ask.target = setStillWaitsCase.st.cfg.number) ∧
    (3 ≤ List.length (dialArgs 0 1200)) ∧
    (byteAt (dialArgs 0 1200) 0 ≤ 3) ∧
    (word16 (dialArgs 0 1200) 1 ≤ 1439 ∨ word16 (dialArgs 0 1200) 1 = 65535) ∧
    (setStillWaitsCase.st.dials[byteAt (dialArgs 0 1200) 0]? = some setStillWaitsCase2) ∧
    (setStillWaitsCase2.state ≠ DialState.unused) ∧
    (setStillWaitsCase2.pulseEnd = none) ∧
    (setStillWaitsCase2.draw = DrawState.pending) ∧
    (setStillWaitsCase2.state ≠ DialState.faulted) ∧
    (word16 (dialArgs 0 1200) 1 ≠ 65535) ∧
    (setStillWaitsCase.st.tb.valid = true) ∧
    (((TimeBase.civil setStillWaitsCase.st.tb).us / 1000000 / 30 % 1440 + 1440 - word16 (dialArgs 0 1200) 1) % 1440 = 0 ∨
  720 < ((TimeBase.civil setStillWaitsCase.st.tb).us / 1000000 / 30 % 1440 + 1440 - word16 (dialArgs 0 1200) 1) % 1440) ∧
    (setStillWaitsCase.st.sup.waiting = [setCancelsCase]) ∧
    (setCancelsCase.id = 8 + byteAt (dialArgs 0 1200) 0) ∧
    (setCancelsCase.queued = false) := by decide

/-- The hypotheses of `Obligations.LightSceneSwitchesOn`, clause 2.2.1. -/
theorem witness_scene_recovers :
    (State.Asked sceneRecoversCase ask start) ∧
    (1 ≤ List.length [15]) ∧
    (1 ≤ byteAt [15] 0) ∧
    (byteAt [15] 0 ≤ 15) ∧
    (sceneRecoversCase.st.sup.circuits = sceneRecoversCase2 :: List.drop 1 base.sup.circuits) ∧
    (∀ (y : Circuit), y ∈ List.drop 1 base.sup.circuits → y.state = CircuitState.unused) ∧
    (sceneRecoversCase2.state = CircuitState.off ∨
  sceneRecoversCase2.state = CircuitState.faulted ∧ Station.showsClosed sceneRecoversCase.st 0 = false) ∧
    ((Station.circuitCfg sceneRecoversCase.st 0).light = some 5) ∧
    (BitVec.getLsbD (List.getD sceneRecoversCase.st.pg.scenes (byteAt [15] 0) 0) (5 - 1) = true) ∧
    (sceneRecoversCase.st.sup.waiting = []) ∧
    (sceneRecoversCase.st.sup.frees = []) ∧
    (sceneRecoversCase.st.sup.incomplete = false) ∧
    (Bus.mayQueue sceneRecoversCase.st.bus = true) ∧
    (List.length sceneRecoversCase.st.bus.queue < 8) ∧
    (List.sum (List.map (fun e => e.amount) sceneRecoversCase.st.sup.draws) +
    (Station.circuitCfg sceneRecoversCase.st 0).inrush ≤
  Station.placingLimit sceneRecoversCase.st) := by decide

/-- The hypotheses of `Obligations.LightSceneSwitchesOn`, clause 2.2.2.1. -/
theorem witness_scene_keeps_lit :
    (State.Asked sceneKeepsLitCase ask start) ∧
    (1 ≤ List.length [15]) ∧
    (byteAt [15] 0 ≤ 15) ∧
    (sceneKeepsLitCase.st.sup.circuits = lit CircuitState.on :: List.drop 1 base.sup.circuits) ∧
    (∀ (y : Circuit), y ∈ List.drop 1 base.sup.circuits → y.state = CircuitState.unused) ∧
    ((lit CircuitState.on).state = CircuitState.starting ∨ (lit CircuitState.on).state = CircuitState.on) ∧
    (1 ≤ byteAt [15] 0 ∧
  ∃ l,
    l ∈ (Station.circuitCfg sceneKeepsLitCase.st 0).light ∧
      BitVec.getLsbD (List.getD sceneKeepsLitCase.st.pg.scenes (byteAt [15] 0) 0) (l - 1) = true) := by decide

/-- The hypotheses of `Obligations.LightSceneSwitchesOn`, clause 2.2.2.2.1. -/
theorem witness_scene_puts_out :
    (State.Asked (on (hearing (drawing 0 10 (withCircuit (lit CircuitState.on))))) ask start) ∧
    (1 ≤ List.length [15]) ∧
    (byteAt [15] 0 ≤ 15) ∧
    ((on (hearing (drawing 0 10 (withCircuit (lit CircuitState.on))))).st.sup.circuits =
  lit CircuitState.on :: List.drop 1 base.sup.circuits) ∧
    (∀ (y : Circuit), y ∈ List.drop 1 base.sup.circuits → y.state = CircuitState.unused) ∧
    ((lit CircuitState.on).state = CircuitState.starting ∨ (lit CircuitState.on).state = CircuitState.on) ∧
    (¬(1 ≤ byteAt [15] 0 ∧
    ∃ l,
      l ∈ (Station.circuitCfg (on (hearing (drawing 0 10 (withCircuit (lit CircuitState.on))))).st 0).light ∧
        BitVec.getLsbD
            (List.getD (on (hearing (drawing 0 10 (withCircuit (lit CircuitState.on))))).st.pg.scenes (byteAt [15] 0) 0)
            (l - 1) =
          true)) ∧
    ((lit CircuitState.on).draw = DrawState.live) ∧
    ((on (hearing (drawing 0 10 (withCircuit (lit CircuitState.on))))).st.sup.waiting = []) ∧
    (∀ (q : QueueSlot),
  q ∈ (on (hearing (drawing 0 10 (withCircuit (lit CircuitState.on))))).st.bus.queue → Frame.isDrawOf 0 q.frame = false) ∧
    (Bus.mayQueue (on (hearing (drawing 0 10 (withCircuit (lit CircuitState.on))))).st.bus = true) ∧
    (List.length (on (hearing (drawing 0 10 (withCircuit (lit CircuitState.on))))).st.bus.queue < 8) := by decide

/-- The hypotheses of `Obligations.LightSceneSwitchesOn`, clause 2.2.2.2.1. -/
theorem witness_scene_puts_out2 :
    (State.Asked (on (hearing (drawing 0 20 (withCircuit (lit CircuitState.starting))))) ask start) ∧
    (1 ≤ List.length [0]) ∧
    (byteAt [0] 0 ≤ 15) ∧
    ((on (hearing (drawing 0 20 (withCircuit (lit CircuitState.starting))))).st.sup.circuits =
  lit CircuitState.starting :: List.drop 1 base.sup.circuits) ∧
    (∀ (y : Circuit), y ∈ List.drop 1 base.sup.circuits → y.state = CircuitState.unused) ∧
    ((lit CircuitState.starting).state = CircuitState.starting ∨ (lit CircuitState.starting).state = CircuitState.on) ∧
    (¬(1 ≤ byteAt [0] 0 ∧
    ∃ l,
      l ∈ (Station.circuitCfg (on (hearing (drawing 0 20 (withCircuit (lit CircuitState.starting))))).st 0).light ∧
        BitVec.getLsbD
            (List.getD (on (hearing (drawing 0 20 (withCircuit (lit CircuitState.starting))))).st.pg.scenes
              (byteAt [0] 0) 0)
            (l - 1) =
          true)) ∧
    ((lit CircuitState.starting).draw = DrawState.live) ∧
    ((on (hearing (drawing 0 20 (withCircuit (lit CircuitState.starting))))).st.sup.waiting = []) ∧
    (∀ (q : QueueSlot),
  q ∈ (on (hearing (drawing 0 20 (withCircuit (lit CircuitState.starting))))).st.bus.queue →
    Frame.isDrawOf 0 q.frame = false) ∧
    (Bus.mayQueue (on (hearing (drawing 0 20 (withCircuit (lit CircuitState.starting))))).st.bus = true) ∧
    (List.length (on (hearing (drawing 0 20 (withCircuit (lit CircuitState.starting))))).st.bus.queue < 8) := by decide

/-- The hypotheses of `Obligations.LightSceneSwitchesOn`, clause 2.2.2.2.2.1. -/
theorem witness_scene_cancels :
    (State.Asked sceneCancelsCase ask start) ∧
    (1 ≤ List.length [15]) ∧
    (byteAt [15] 0 ≤ 15) ∧
    (sceneCancelsCase.st.sup.circuits = waitingCircuit :: List.drop 1 base.sup.circuits) ∧
    (∀ (y : Circuit), y ∈ List.drop 1 base.sup.circuits → y.state = CircuitState.unused) ∧
    (waitingCircuit.state = CircuitState.waitingSupply) ∧
    (¬(1 ≤ byteAt [15] 0 ∧
    ∃ l,
      l ∈ (Station.circuitCfg sceneCancelsCase.st 0).light ∧
        BitVec.getLsbD (List.getD sceneCancelsCase.st.pg.scenes (byteAt [15] 0) 0) (l - 1) = true)) ∧
    (waitingCircuit.draw = DrawState.pending) ∧
    (sceneCancelsCase.st.sup.waiting = [waitingDraw 20 false]) ∧
    ((waitingDraw 20 false).id = 0) ∧
    ((waitingDraw 20 false).queued = false) := by decide

/-- The hypotheses of `Obligations.LightSceneSwitchesOn`, clause 2.2.2.2.2.2.1. -/
theorem witness_scene_clears_fault :
    (State.Asked sceneClearsFaultCase ask start) ∧
    (1 ≤ List.length [15]) ∧
    (byteAt [15] 0 ≤ 15) ∧
    (sceneClearsFaultCase.st.sup.circuits = sceneRecoversCase2 :: List.drop 1 base.sup.circuits) ∧
    (∀ (y : Circuit), y ∈ List.drop 1 base.sup.circuits → y.state = CircuitState.unused) ∧
    (sceneRecoversCase2.state = CircuitState.faulted) ∧
    (Station.showsClosed sceneClearsFaultCase.st 0 = false) ∧
    (¬(1 ≤ byteAt [15] 0 ∧
    ∃ l,
      l ∈ (Station.circuitCfg sceneClearsFaultCase.st 0).light ∧
        BitVec.getLsbD (List.getD sceneClearsFaultCase.st.pg.scenes (byteAt [15] 0) 0) (l - 1) = true)) := by decide

/-- The hypotheses of `Obligations.LightSceneSwitchesOn`, clause 2.2.2.2.2.2.2.1. -/
theorem witness_scene_keeps_fault :
    (State.Asked sceneKeepsFaultCase ask start) ∧
    (1 ≤ List.length [15]) ∧
    (byteAt [15] 0 ≤ 15) ∧
    (sceneKeepsFaultCase.st.sup.circuits = sceneRecoversCase2 :: List.drop 1 base.sup.circuits) ∧
    (∀ (y : Circuit), y ∈ List.drop 1 base.sup.circuits → y.state = CircuitState.unused) ∧
    (sceneRecoversCase2.state = CircuitState.faulted) ∧
    (Station.showsClosed sceneKeepsFaultCase.st 0 = true) ∧
    (sceneRecoversCase2.wanted = true ↔
  1 ≤ byteAt [15] 0 ∧
    ∃ l,
      l ∈ (Station.circuitCfg sceneKeepsFaultCase.st 0).light ∧
        BitVec.getLsbD (List.getD sceneKeepsFaultCase.st.pg.scenes (byteAt [15] 0) 0) (l - 1) = true) := by decide

/-- The hypotheses of `Obligations.LightSceneSwitchesOn`, clause 2.2.2.2.2.2.2.2. -/
theorem witness_scene_stays_dark :
    (State.Asked sceneStaysDarkCase ask start) ∧
    (1 ≤ List.length [15]) ∧
    (byteAt [15] 0 ≤ 15) ∧
    (sceneStaysDarkCase.st.sup.circuits = sceneStaysDarkCase2 :: List.drop 1 base.sup.circuits) ∧
    (∀ (y : Circuit), y ∈ List.drop 1 base.sup.circuits → y.state = CircuitState.unused) ∧
    (sceneStaysDarkCase2.state = CircuitState.off) ∧
    (¬(1 ≤ byteAt [15] 0 ∧
    ∃ l,
      l ∈ (Station.circuitCfg sceneStaysDarkCase.st 0).light ∧
        BitVec.getLsbD (List.getD sceneStaysDarkCase.st.pg.scenes (byteAt [15] 0) 0) (l - 1) = true)) := by decide

/-- The hypotheses of `Obligations.ListeningTimesOut`, clause 1.2.1. -/
theorem witness_entry_own_far :
    (State.settled entryOwnFarCase) ∧
    (entryOwnFarCase.st.seq.state = RunState.listening) ∧
    (entryOwnFarCase.st.seq.timeout = some { sec := 1000, cyc := 100 : RunTime }) ∧
    (RunTime.reached { sec := 1000, cyc := 100 : RunTime } entryOwnFarCase.st.tb.run = true) ∧
    (∀ (p : Option Peer), p ∈ entryOwnFarCase.st.ag.peers → p = none) ∧
    (∀ (x : Dial), x ∈ entryOwnFarCase.st.dials → x.state = DialState.unused ∧ x.draw = DrawState.none) ∧
    (∀ (x : Circuit), x ∈ entryOwnFarCase.st.sup.circuits → x.state = CircuitState.unused ∧ x.draw = DrawState.none) ∧
    (∀ (e : DrawEntry), e ∈ entryOwnFarCase.st.sup.draws → e.own = false) ∧
    (entryOwnFarCase.st.tb.valid = true ∧
  entryOwnFarCase.st.ag.refState ≠ RefState.locked ∧
    entryOwnFarCase.st.pg.scanMark = none ∧
      entryOwnFarCase.st.pg.calendar = List.replicate 96 none ∧ entryOwnFarCase.st.sup.override = false) ∧
    ((∀ (bell : Nat), bell ∈ entryOwnFarCase.st.cfg.hourBell → StationBlock.isOwn entryOwnFarCase.st.cfg bell = false) ∨
  entryOwnFarCase.st.pf.silenced = true ∨
    300000000 <
      (TowerTime.civil (TimeBase.now entryOwnFarCase.st.tb) entryOwnFarCase.st.tb.offset).us -
        (TowerTime.civil (TimeBase.now entryOwnFarCase.st.tb) entryOwnFarCase.st.tb.offset).us / 3600000000 * 3600000000) := by decide

/-- The hypotheses of `Obligations.ListeningTimesOut`, clause 1.2.2.1. -/
theorem witness_entry_suppressed :
    (State.settled entrySuppressedCase) ∧
    (entrySuppressedCase.st.seq.state = RunState.listening) ∧
    (entrySuppressedCase.st.seq.timeout = some { sec := 1000, cyc := 100 : RunTime }) ∧
    (RunTime.reached { sec := 1000, cyc := 100 : RunTime } entrySuppressedCase.st.tb.run = true) ∧
    (∀ (p : Option Peer), p ∈ entrySuppressedCase.st.ag.peers → p = none) ∧
    (∀ (x : Dial), x ∈ entrySuppressedCase.st.dials → x.state = DialState.unused ∧ x.draw = DrawState.none) ∧
    (∀ (x : Circuit), x ∈ entrySuppressedCase.st.sup.circuits → x.state = CircuitState.unused ∧ x.draw = DrawState.none) ∧
    (∀ (e : DrawEntry), e ∈ entrySuppressedCase.st.sup.draws → e.own = false) ∧
    (entrySuppressedCase.st.tb.valid = true ∧
  entrySuppressedCase.st.ag.refState ≠ RefState.locked ∧
    entrySuppressedCase.st.pg.scanMark = none ∧
      entrySuppressedCase.st.pg.calendar = List.replicate 96 none ∧ entrySuppressedCase.st.sup.override = false) ∧
    (entrySuppressedCase.st.cfg.hourBell = some 1) ∧
    (StationBlock.isOwn entrySuppressedCase.st.cfg 1 = true) ∧
    (entrySuppressedCase.st.pf.silenced = false) ∧
    ((TowerTime.civil (TimeBase.now entrySuppressedCase.st.tb) entrySuppressedCase.st.tb.offset).us -
    (TowerTime.civil (TimeBase.now entrySuppressedCase.st.tb) entrySuppressedCase.st.tb.offset).us / 3600000000 *
      3600000000 ≤
  300000000) ∧
    ((∃ t, t ∈ entrySuppressedCase.st.pf.lastHour ∧ RunTime.elapsed t entrySuppressedCase.st.tb.run < 3000 * 32768) ∨
  Station.record entrySuppressedCase.st 0 ≠ none ∨
    Performances.isRecent entrySuppressedCase.st.pf
        { cls := PerfClass.hour, number := 0, quarter := 0,
          day :=
            (TowerTime.plus
                {
                  day :=
                    (TowerTime.civil (TimeBase.now entrySuppressedCase.st.tb) entrySuppressedCase.st.tb.offset).day,
                  us :=
                    (TowerTime.civil (TimeBase.now entrySuppressedCase.st.tb) entrySuppressedCase.st.tb.offset).us /
                        3600000000 *
                      3600000000 :
                  TowerTime }
                (-(↑(entrySuppressedCase.st.tb.offset * 60000000) : Int))).day,
          minute :=
            (TowerTime.plus
                  {
                    day :=
                      (TowerTime.civil (TimeBase.now entrySuppressedCase.st.tb) entrySuppressedCase.st.tb.offset).day,
                    us :=
                      (TowerTime.civil (TimeBase.now entrySuppressedCase.st.tb) entrySuppressedCase.st.tb.offset).us /
                          3600000000 *
                        3600000000 :
                    TowerTime }
                  (-(↑(entrySuppressedCase.st.tb.offset * 60000000) : Int))).us /
              60000000 :
          Key } =
      true) := by decide

/-- The hypotheses of `Obligations.ListeningTimesOut`, clause 1.2.2.2. -/
theorem witness_entry_makes_hour :
    (State.settled entryMakesHourCase) ∧
    (entryMakesHourCase.st.seq.state = RunState.listening) ∧
    (entryMakesHourCase.st.seq.timeout = some { sec := 1000, cyc := 100 : RunTime }) ∧
    (RunTime.reached { sec := 1000, cyc := 100 : RunTime } entryMakesHourCase.st.tb.run = true) ∧
    (∀ (p : Option Peer), p ∈ entryMakesHourCase.st.ag.peers → p = none) ∧
    (∀ (x : Dial), x ∈ entryMakesHourCase.st.dials → x.state = DialState.unused ∧ x.draw = DrawState.none) ∧
    (∀ (x : Circuit), x ∈ entryMakesHourCase.st.sup.circuits → x.state = CircuitState.unused ∧ x.draw = DrawState.none) ∧
    (∀ (e : DrawEntry), e ∈ entryMakesHourCase.st.sup.draws → e.own = false) ∧
    (entryMakesHourCase.st.tb.valid = true ∧
  entryMakesHourCase.st.ag.refState ≠ RefState.locked ∧
    entryMakesHourCase.st.pg.scanMark = none ∧
      entryMakesHourCase.st.pg.calendar = List.replicate 96 none ∧ entryMakesHourCase.st.sup.override = false) ∧
    (entryMakesHourCase.st.cfg.hourBell = some 1) ∧
    (StationBlock.isOwn entryMakesHourCase.st.cfg 1 = true) ∧
    (entryMakesHourCase.st.pf.silenced = false) ∧
    ((TowerTime.civil (TimeBase.now entryMakesHourCase.st.tb) entryMakesHourCase.st.tb.offset).us -
    (TowerTime.civil (TimeBase.now entryMakesHourCase.st.tb) entryMakesHourCase.st.tb.offset).us / 3600000000 *
      3600000000 ≤
  300000000) ∧
    (∀ (t : RunTime), t ∈ entryMakesHourCase.st.pf.lastHour → 3000 * 32768 ≤ RunTime.elapsed t entryMakesHourCase.st.tb.run) ∧
    (Station.record entryMakesHourCase.st 0 = none) ∧
    (Performances.isRecent entryMakesHourCase.st.pf
    { cls := PerfClass.hour, number := 0, quarter := 0,
      day :=
        (TowerTime.plus
            { day := (TowerTime.civil (TimeBase.now entryMakesHourCase.st.tb) entryMakesHourCase.st.tb.offset).day,
              us :=
                (TowerTime.civil (TimeBase.now entryMakesHourCase.st.tb) entryMakesHourCase.st.tb.offset).us /
                    3600000000 *
                  3600000000 :
              TowerTime }
            (-(↑(entryMakesHourCase.st.tb.offset * 60000000) : Int))).day,
      minute :=
        (TowerTime.plus
              { day := (TowerTime.civil (TimeBase.now entryMakesHourCase.st.tb) entryMakesHourCase.st.tb.offset).day,
                us :=
                  (TowerTime.civil (TimeBase.now entryMakesHourCase.st.tb) entryMakesHourCase.st.tb.offset).us /
                      3600000000 *
                    3600000000 :
                TowerTime }
              (-(↑(entryMakesHourCase.st.tb.offset * 60000000) : Int))).us /
          60000000 :
      Key } =
  false) ∧
    (Performances.chimeRecent entryMakesHourCase.st.pf
    { cls := PerfClass.hour, number := 0, quarter := 0,
        day :=
          (TowerTime.plus
              { day := (TowerTime.civil (TimeBase.now entryMakesHourCase.st.tb) entryMakesHourCase.st.tb.offset).day,
                us :=
                  (TowerTime.civil (TimeBase.now entryMakesHourCase.st.tb) entryMakesHourCase.st.tb.offset).us /
                      3600000000 *
                    3600000000 :
                TowerTime }
              (-(↑(entryMakesHourCase.st.tb.offset * 60000000) : Int))).day,
        minute :=
          (TowerTime.plus
                { day := (TowerTime.civil (TimeBase.now entryMakesHourCase.st.tb) entryMakesHourCase.st.tb.offset).day,
                  us :=
                    (TowerTime.civil (TimeBase.now entryMakesHourCase.st.tb) entryMakesHourCase.st.tb.offset).us /
                        3600000000 *
                      3600000000 :
                  TowerTime }
                (-(↑(entryMakesHourCase.st.tb.offset * 60000000) : Int))).us /
            60000000 :
        Key }.day
    { cls := PerfClass.hour, number := 0, quarter := 0,
        day :=
          (TowerTime.plus
              { day := (TowerTime.civil (TimeBase.now entryMakesHourCase.st.tb) entryMakesHourCase.st.tb.offset).day,
                us :=
                  (TowerTime.civil (TimeBase.now entryMakesHourCase.st.tb) entryMakesHourCase.st.tb.offset).us /
                      3600000000 *
                    3600000000 :
                TowerTime }
              (-(↑(entryMakesHourCase.st.tb.offset * 60000000) : Int))).day,
        minute :=
          (TowerTime.plus
                { day := (TowerTime.civil (TimeBase.now entryMakesHourCase.st.tb) entryMakesHourCase.st.tb.offset).day,
                  us :=
                    (TowerTime.civil (TimeBase.now entryMakesHourCase.st.tb) entryMakesHourCase.st.tb.offset).us /
                        3600000000 *
                      3600000000 :
                  TowerTime }
                (-(↑(entryMakesHourCase.st.tb.offset * 60000000) : Int))).us /
            60000000 :
        Key }.minute =
  false) := by decide

/-- The hypotheses of `Obligations.ListeningTimesOut`, clause 2.1.1. -/
theorem witness_entry_renews :
    (State.settled entryRenewsCase) ∧
    (entryRenewsCase.st.seq.state = RunState.listening) ∧
    (entryRenewsCase.st.seq.timeout = some { sec := 1000, cyc := 100 : RunTime }) ∧
    (RunTime.reached { sec := 1000, cyc := 100 : RunTime } entryRenewsCase.st.tb.run = true) ∧
    (∀ (p : Option Peer), p ∈ entryRenewsCase.st.ag.peers → p = none) ∧
    (entryRenewsCase.st.tb.valid = false) ∧
    (∀ (x : Dial),
  x ∈ entryRenewsCase.st.dials → x.state = DialState.unused ∨ x.state = DialState.faulted ∨ x.pulseEnd ≠ none) ∧
    (List.filter (fun o => o.own) entryRenewsCase.st.sup.draws =
  [{ station := 3, id := 0, amount := 10, own := true, hold := 150, announced := none : DrawEntry }]) ∧
    (∀ (q : QueueSlot),
  q ∈ entryRenewsCase.st.bus.queue →
    Frame.isDrawOf { station := 3, id := 0, amount := 10, own := true, hold := 150, announced := none : DrawEntry }.id
        q.frame =
      false) ∧
    (Bus.mayQueue entryRenewsCase.st.bus = true) ∧
    (List.length entryRenewsCase.st.bus.queue < 8) := by decide

/-- The hypotheses of `Obligations.ListeningTimesOut`, clause 2.1.2. -/
theorem witness_entry_flags :
    (State.settled entryFlagsCase) ∧
    (entryFlagsCase.st.seq.state = RunState.listening) ∧
    (entryFlagsCase.st.seq.timeout = some { sec := 1000, cyc := 100 : RunTime }) ∧
    (RunTime.reached { sec := 1000, cyc := 100 : RunTime } entryFlagsCase.st.tb.run = true) ∧
    (∀ (p : Option Peer), p ∈ entryFlagsCase.st.ag.peers → p = none) ∧
    (entryFlagsCase.st.tb.valid = false) ∧
    (∀ (x : Dial), x ∈ entryFlagsCase.st.dials → x.state = DialState.unused ∨ x.state = DialState.faulted ∨ x.pulseEnd ≠ none) ∧
    (List.filter (fun o => o.own) entryFlagsCase.st.sup.draws =
  [{ station := 3, id := 0, amount := 10, own := true, hold := 150, announced := none : DrawEntry }]) ∧
    (∀ (q : QueueSlot),
  q ∈ entryFlagsCase.st.bus.queue →
    Frame.isDrawOf { station := 3, id := 0, amount := 10, own := true, hold := 150, announced := none : DrawEntry }.id
        q.frame =
      false) ∧
    (Bus.mayQueue entryFlagsCase.st.bus = false ∨ 8 ≤ List.length entryFlagsCase.st.bus.queue) := by decide

/-- The hypotheses of `Obligations.ListeningTimesOut`, clause 2.2.1. -/
theorem witness_entry_holds :
    (State.settled entryHoldsCase) ∧
    (entryHoldsCase.st.seq.state = RunState.listening) ∧
    (entryHoldsCase.st.seq.timeout = some { sec := 1000, cyc := 100 : RunTime }) ∧
    (RunTime.reached { sec := 1000, cyc := 100 : RunTime } entryHoldsCase.st.tb.run = true) ∧
    (∀ (p : Option Peer), p ∈ entryHoldsCase.st.ag.peers → p = none) ∧
    (entryHoldsCase.st.dials = hands 5 :: List.drop 1 base.dials) ∧
    (∀ (y : Dial), y ∈ List.drop 1 base.dials → y.state = DialState.unused ∧ y.draw = DrawState.none) ∧
    (∀ (c : Circuit), c ∈ entryHoldsCase.st.sup.circuits → c.state = CircuitState.unused ∧ c.draw = DrawState.none) ∧
    (∀ (e : DrawEntry), e ∈ entryHoldsCase.st.sup.draws → e.own = false) ∧
    ((hands 5).state ≠ DialState.unused) ∧
    ((hands 5).state ≠ DialState.faulted) ∧
    ((hands 5).pulseEnd = none) ∧
    ((hands 5).draw = DrawState.none) ∧
    (entryHoldsCase.st.tb.valid = false) ∧
    ((hands 5).position ≠ none) := by decide

/-- The hypotheses of `Obligations.ListeningTimesOut`, clause 2.2.2.1. -/
theorem witness_entry_at_target :
    (State.settled entryAtTargetCase) ∧
    (entryAtTargetCase.st.seq.state = RunState.listening) ∧
    (entryAtTargetCase.st.seq.timeout = some { sec := 1000, cyc := 100 : RunTime }) ∧
    (RunTime.reached { sec := 1000, cyc := 100 : RunTime } entryAtTargetCase.st.tb.run = true) ∧
    (∀ (p : Option Peer), p ∈ entryAtTargetCase.st.ag.peers → p = none) ∧
    (entryAtTargetCase.st.dials = hands 1200 :: List.drop 1 base.dials) ∧
    (∀ (y : Dial), y ∈ List.drop 1 base.dials → y.state = DialState.unused ∧ y.draw = DrawState.none) ∧
    (∀ (c : Circuit), c ∈ entryAtTargetCase.st.sup.circuits → c.state = CircuitState.unused ∧ c.draw = DrawState.none) ∧
    (∀ (e : DrawEntry), e ∈ entryAtTargetCase.st.sup.draws → e.own = false) ∧
    ((hands 1200).state ≠ DialState.unused) ∧
    ((hands 1200).state ≠ DialState.faulted) ∧
    ((hands 1200).pulseEnd = none) ∧
    ((hands 1200).draw = DrawState.none) ∧
    (entryAtTargetCase.st.tb.valid = true ∧
  entryAtTargetCase.st.ag.refState ≠ RefState.locked ∧
    entryAtTargetCase.st.pg.scanMark = none ∧
      entryAtTargetCase.st.pg.calendar = List.replicate 96 none ∧ entryAtTargetCase.st.sup.override = false) ∧
    ((∀ (bell : Nat), bell ∈ entryAtTargetCase.st.cfg.hourBell → StationBlock.isOwn entryAtTargetCase.st.cfg bell = false) ∨
  entryAtTargetCase.st.pf.silenced = true ∨
    300000000 <
      (TowerTime.civil (TimeBase.now entryAtTargetCase.st.tb) entryAtTargetCase.st.tb.offset).us -
        (TowerTime.civil (TimeBase.now entryAtTargetCase.st.tb) entryAtTargetCase.st.tb.offset).us / 3600000000 *
          3600000000) ∧
    ((hands 1200).position =
  some
    ((TowerTime.civil (TimeBase.now entryAtTargetCase.st.tb) entryAtTargetCase.st.tb.offset).us / 1000000 / 30 % 1440)) := by decide

/-- The hypotheses of `Obligations.ListeningTimesOut`, clause 2.2.2.2.1. -/
theorem witness_entry_seeks :
    (State.settled entrySeeksCase) ∧
    (entrySeeksCase.st.seq.state = RunState.listening) ∧
    (entrySeeksCase.st.seq.timeout = some { sec := 1000, cyc := 100 : RunTime }) ∧
    (RunTime.reached { sec := 1000, cyc := 100 : RunTime } entrySeeksCase.st.tb.run = true) ∧
    (∀ (p : Option Peer), p ∈ entrySeeksCase.st.ag.peers → p = none) ∧
    (entrySeeksCase.st.dials = entrySeeksCase2 :: List.drop 1 base.dials) ∧
    (∀ (y : Dial), y ∈ List.drop 1 base.dials → y.state = DialState.unused ∧ y.draw = DrawState.none) ∧
    (∀ (c : Circuit), c ∈ entrySeeksCase.st.sup.circuits → c.state = CircuitState.unused ∧ c.draw = DrawState.none) ∧
    (∀ (e : DrawEntry), e ∈ entrySeeksCase.st.sup.draws → e.own = false) ∧
    (entrySeeksCase2.state ≠ DialState.unused) ∧
    (entrySeeksCase2.state ≠ DialState.faulted) ∧
    (entrySeeksCase2.pulseEnd = none) ∧
    (entrySeeksCase2.draw = DrawState.none) ∧
    (entrySeeksCase.st.tb.valid = false) ∧
    (entrySeeksCase2.position = none) ∧
    (entrySeeksCase.st.sup.waiting = []) ∧
    (entrySeeksCase.st.sup.frees = []) ∧
    (entrySeeksCase.st.sup.incomplete = false) ∧
    (List.sum (List.map (fun e => e.amount) entrySeeksCase.st.sup.draws) + (Station.dialCfg entrySeeksCase.st 0).current ≤
  entrySeeksCase.st.cfg.budget / 2) ∧
    (Bus.mayQueue entrySeeksCase.st.bus = true) ∧
    (List.length entrySeeksCase.st.bus.queue < 8) := by decide

/-- The hypotheses of `Obligations.ListeningTimesOut`, clause 2.2.2.2.2. -/
theorem witness_entry_seek_waits :
    (State.settled entrySeekWaitsCase) ∧
    (entrySeekWaitsCase.st.seq.state = RunState.listening) ∧
    (entrySeekWaitsCase.st.seq.timeout = some { sec := 1000, cyc := 100 : RunTime }) ∧
    (RunTime.reached { sec := 1000, cyc := 100 : RunTime } entrySeekWaitsCase.st.tb.run = true) ∧
    (∀ (p : Option Peer), p ∈ entrySeekWaitsCase.st.ag.peers → p = none) ∧
    (entrySeekWaitsCase.st.dials = entrySeeksCase2 :: List.drop 1 base.dials) ∧
    (∀ (y : Dial), y ∈ List.drop 1 base.dials → y.state = DialState.unused ∧ y.draw = DrawState.none) ∧
    (∀ (c : Circuit), c ∈ entrySeekWaitsCase.st.sup.circuits → c.state = CircuitState.unused ∧ c.draw = DrawState.none) ∧
    (∀ (e : DrawEntry), e ∈ entrySeekWaitsCase.st.sup.draws → e.own = false) ∧
    (entrySeeksCase2.state ≠ DialState.unused) ∧
    (entrySeeksCase2.state ≠ DialState.faulted) ∧
    (entrySeeksCase2.pulseEnd = none) ∧
    (entrySeeksCase2.draw = DrawState.none) ∧
    (entrySeekWaitsCase.st.tb.valid = false) ∧
    (entrySeeksCase2.position = none) ∧
    (entrySeekWaitsCase.st.sup.waiting = []) ∧
    (entrySeekWaitsCase.st.sup.frees = []) ∧
    (entrySeekWaitsCase.st.sup.incomplete = false) ∧
    (entrySeekWaitsCase.st.cfg.budget / 2 <
  List.sum (List.map (fun e => e.amount) entrySeekWaitsCase.st.sup.draws) +
    (Station.dialCfg entrySeekWaitsCase.st 0).current) := by decide

/-- The machine at a civil quarter, the command that takes it in front. -/
def quarterStep : State := { quarterDue with pending := [.civilQuarter] }

/-- The machine after it. -/
def quarterTaken : State := on { base with pf := { base.pf with quarter := some ⟨4, 10, 9000, 600⟩ } }

theorem test_civil_quarter : step quarterStep = .next quarterTaken := by rfl

/-- The hypotheses of `Obligations.CommandsKeepQueueAndMemory`. -/
theorem witness_queue_kept : exec .civilQuarter quarterDue = .next quarterTaken ∧
    (∀ f h, Instr.civilQuarter ≠ .storeComplete f h) ∧ (∀ a w, Instr.civilQuarter ≠ .loadingEnd a w) := ⟨by rfl, nofun, nofun⟩

/-- The hypotheses of `Obligations.StepKeepsBusAndSettled`, clause 1. -/
theorem witness_settled : quarterStep.settled ∧ step quarterStep = .next quarterTaken := ⟨by decide, by rfl⟩

/-- The hypotheses of `Obligations.StepKeepsBusAndSettled`, clause 2. -/
theorem witness_agrees : quarterStep.st.bus.agrees ∧ step quarterStep = .next quarterTaken := ⟨by decide, by rfl⟩

/-- The hypotheses of `Obligations.StepKeepsTables`, clause 1. -/
theorem witness_tables : quarterStep.tablesKept ∧ step quarterStep = .next quarterTaken :=
  ⟨by simp only [State.tablesKept]; decide, by rfl⟩

/-- A station at a civil quarter, with a record that holds bell 1 and a circuit that draws. -/
def busyStation : Station := { recordAnd (holding (record tuneKey .playing 0 true)) heldBell with
  tb := quarterDue.st.tb, sup := (startEnd 20).st.sup, cfg := (startEnd 20).st.cfg }

/-- The machine at it, the command that takes it in front. -/
def busyStep : State := ⟨[.civilQuarter], [], busyStation⟩

/-- The machine after it. -/
def busyTaken : State := on { busyStation with tb := clock, pf := { busyStation.pf with quarter := some ⟨4, 10, 9000, 600⟩ } }

theorem busy_record : ∀ i x, busyStep.st.record i = some x → i = 1 ∧ x = holding (record tuneKey .playing 0 true)
  | 0, _, h | 2, _, h | 3, _, h | 4, _, h | 5, _, h => by cases h
  | 1, _, h => ⟨rfl, (Option.some.inj h).symm⟩
  | _ + 6, _, h => by cases h

/-- The hypotheses of `Obligations.StepKeepsTables`, clause 2. -/
theorem witness_keys : busyStep.keysKept ∧ step busyStep = .next busyTaken :=
  ⟨⟨fun i j x y hi hj _ => (busy_record i x hi).1.trans (busy_record j y hj).1.symm, fun _ _ _ => rfl,
    fun i x h => by obtain ⟨rfl, rfl⟩ := busy_record i x h; decide⟩, by rfl⟩

/-- The hypotheses of `Obligations.StepKeepsHammerSlots`, clause 2. -/
theorem witness_queues : busyStep.queuesKept ∧ step busyStep = .next busyTaken := by
  refine ⟨fun c hc => ?_, by rfl⟩
  simp only [busyStep, busyStation, recordAnd, base, List.set_cons_zero, List.mem_cons, List.mem_replicate] at hc
  rcases hc with rfl | rfl | ⟨-, rfl⟩ <;>
    exact ⟨by decide, by decide, nofun⟩

theorem busy_draw : ∀ id, busyStep.st.drawOf id = if id = 0 then .live else .none
  | 0 | 1 | 2 | 3 | 4 | 5 | 6 | 7 | 8 | 9 | 10 | 11 => by rfl
  | n + 12 => by rfl

theorem busy_circuit : ∀ c, busyStep.st.circuit c = if c = 0 then lit .starting else Circuit.cold
  | 0 | 1 | 2 | 3 | 4 | 5 => by rfl
  | n + 6 => by rfl

/-- The hypotheses of `Obligations.StepKeepsOwnDraws`, clauses 1 and 2. -/
theorem witness_own_draws : busyStep.tablesKept ∧ busyStep.drawsKept ∧ step busyStep = .next busyTaken := by
  refine ⟨by simp only [State.tablesKept]; decide,
    ⟨⟨by decide, by decide, by decide, fun id h => ?_⟩, ⟨by decide, by decide, fun c h => ?_⟩,
      ⟨by decide, by decide⟩, ⟨nofun, fun _ => Nat.zero_le 1, by decide, nofun⟩,
      ⟨(by rintro (h | h | h) <;> cases h), fun _ => rfl⟩⟩, by rfl⟩
  · rw [busy_draw] at h
    split at h
    · next h0 => subst h0; rfl
    · cases h
  · rw [busy_circuit] at h
    split at h
    · next h0 => subst h0; decide
    · cases h

/-- The hypotheses of `Obligations.StepKeepsMemoryForm`. -/
theorem witness_memory_form : quarterStep.memoryKept ∧ step quarterStep = .next quarterTaken := ⟨by decide, by rfl⟩

/-- The hypotheses of `Obligations.StepKeepsHammerSlots`, clause 1. -/
theorem witness_hammer_slots : quarterStep.slotsKept ∧ step quarterStep = .next quarterTaken := ⟨by decide, by rfl⟩

/-- The hypotheses of `Obligations.StepKeepsTimeInRange`. -/
theorem witness_time_range : quarterStep.st.tb.inRange ∧ step quarterStep = .next quarterTaken := ⟨by decide, by rfl⟩

/-- The hypotheses of `Obligations.MemoryReadsWhatWasWritten`, clause 2. -/
theorem witness_memory_same : Memory.wf [(5, 1), (9, 2)] = true ∧ Memory.wf (Memory.write [(9, 2)] 5 1) = true ∧
    ∀ a, Memory.read [(5, 1), (9, 2)] a = Memory.read (Memory.write [(9, 2)] 5 1) a := ⟨by decide, by decide, fun _ => rfl⟩

/-- The two kinds of year of `Obligations.DatesFollowTheCycle`, at their first and last days. -/
theorem witness_dates : (0 % 1461 < 366) ∧ (365 % 1461 < 366) ∧ (366 ≤ 366 % 1461) ∧ (366 ≤ 1460 % 1461) := by decide

/-- The hypotheses of `Obligations.SourcesAreChosenAndDropped`, clauses 2.1.1 and 2.1.2, and inner ones of clause 2.2.2.1: no best
candidate, and a source that has gone with no candidate left. -/
theorem witness_no_source : base.best = none ∧ (peerLate .searching).st.best = some (14, oldPeer) ∧
    (∀ s : Station, s.best = none → ∀ n p, s.best = some (n, p) → s.accepts n p = false) ∧
    (let gone : Station := { base with ag := { base.ag with followed := some 4, refState := .searching } }
     gone.ag.refState ≠ .locked ∧ gone.ag.followed = some 4 ∧ gone.peer 4 = none ∧ gone.best = none) := by
  refine ⟨by decide, by decide, fun s h n p hp => ?_, by decide⟩
  rw [h] at hp
  exact absurd hp (by simp)

/-- The inner hypothesis of `Obligations.SecondsSpreadTheCorrection`, clause 1, beside the outer ones. -/
theorem witness_second_out_of_service : let s : State := { secondDue with st := { secondDue.st with seq := { base.seq with state := .checking } } }
    s.settled ∧ s.st.tb.secondDue = true ∧ s.st.inService = false := by decide

/-- The inner hypotheses of `Obligations.HeardCueMakesARecord`, clause 1: the class of a tune's cue and of a toll's. -/
theorem witness_cue_classes : (keyAt (cueBytes tuneKey 0 2001 0) 0).cls = .tune ∧ (keyAt (cueBytes tollKey 0 999 65535) 0).cls = .toll := by decide

/-- The inner hypotheses of `Obligations.StartMomentSetsTheBlocks`: a COLD start, a RESTORE and a WARM one. -/
theorem witness_start_kinds : (waitingSupply true false).st.seq.startKind = .cold ∧ (waitingSupply true true).st.seq.startKind = .restore ∧
    (waitingSupply false false).st.seq.startKind = .warm := by decide

/-- The inner hypotheses of `Obligations.CheckingAndLoadingEnd`, clause 1, and of `Obligations.SilenceAndResume`, clause 1.1: they have channels
and circuits, one at rest and one closed, and a slot. -/
theorem witness_parts : checking.st.channels[0]? = some bell ∧ checking.st.showsRest 0 = true ∧ checking.st.showsRest 1 = false ∧
    checking.st.sup.circuits[0]? = some Circuit.cold ∧ checking.st.showsClosed 0 = true ∧ checking.st.showsClosed 1 = false ∧
    silenceMe.st.record 5 = none ∧ silenceMe.st.record 1 ≠ none := by decide

/-- The inner hypothesis of `Obligations.CheckingAndLoadingEnd`, clause 2.2.1: an empty programme area is invalid. -/
theorem witness_programme_invalid : (loadProgramme theBlock blockMemory).invalid = true := by
  have h : sceneBlock.good blockMemory = false := by decide +kernel
  simp [loadProgramme, h]

/-- An inner hypothesis of `Obligations.StoreWritesTheBlocks`, clause 2.1: the lowest and the highest byte that no block holds. -/
theorem witness_outside : (255 < 256 ∨ (9092 ≤ 255 ∧ 255 < 9216) ∨ (10562 ≤ 255 ∧ 255 < 10752) ∨ (10846 ≤ 255 ∧ 255 < 10880) ∨ 10942 ≤ 255) ∧
    (9092 < 256 ∨ (9092 ≤ 9092 ∧ 9092 < 9216)) ∧ (9215 < 256 ∨ (9092 ≤ 9215 ∧ 9215 < 9216)) ∧ (10942 ≤ 10942) := by decide


/-- The inner hypotheses of `Obligations.TimesDifferAndCross`, clause 2.2.2.2.1: the OFFSET entry of the day fires, the latest of all. -/
theorem witness_latest : latestFiring ⟨9000, 36000000000⟩ (oneEntry (offsetEntry 60) base).pg.calendar 0 none = some ⟨0, 600, 0, 60⟩ ∧
    (0 : Nat) ≤ 366 ∧ (0 < 0 ∨ 600 * 60000000 ≤ 36000000000) ∧
    ∃ c, (oneEntry (offsetEntry 60) base).pg.calendar[0]? = some (some c) ∧ c.entry.work = .offset 600 60 ∧
      c.entry.selector.selects (daysBefore 9000 0) = true := ⟨by decide, by decide, by decide, _, rfl, rfl, by decide⟩

/-- The inner hypotheses of `Obligations.DuskFollowsTheTable`, clause 2.1. -/
theorem witness_light : (lightCalendar 600).lastLight 9000 0 600 = some (600, 2) ∧ 600 ≤ 600 ∧
    ∃ c time, (lightCalendar 600).calendar[0]? = some (some c) ∧ c.entry.work = .light time 2 ∧ c.entry.selector.selects 9000 = true ∧
      (lightCalendar 600).lightMinute 9000 0 time = some 600 := ⟨by decide, by decide, _, _, rfl, rfl, by decide, by decide⟩

/-- The hypotheses of `Obligations.CivilBoundariesAreTaken`, clause 2.2.2.1.1: a silenced station, and a tune it has not. -/
theorem witness_request_ignored : tuneKey.cls ≠ .hour ∧ ({ base with pf := { base.pf with silenced := true } } : Station).pf.silenced = true ∧
    tuneKey.cls ≠ .toll ∧ ∀ t, base.pg.tune tuneKey.number = some t → t.state = .opened := ⟨by decide, rfl, by decide, nofun⟩

/-- The hypotheses of `Obligations.CivilBoundariesAreTaken`, clause 2.2.2.1.2, of a toll's key and of a tune's. -/
theorem witness_request_made : ∀ k ∈ [tollKey, tuneKey], let s := oneTune 0 base
    k.cls ≠ .hour ∧ k.day < 65536 ∧ k.minute < 1440 ∧ s.pf.silenced = false ∧ s.running = true ∧ s.pf.slotOf k = none ∧
    s.pf.isRecent k = false ∧ s.record 0 = none ∧ s.pf.freeSlot = some 1 ∧ s.bus.mayQueue = true ∧ s.bus.queue.length < 8 ∧
    s.cfg.cueLead ≤ 5000 ∧
    s.tb.now.diff (((TowerTime.ofMinute k.day k.minute).plus ((s.cfg.cueLead * 1000 : Nat) : Int)).plus (-1500000)) < 0 ∧
    (k.cls = .toll ∨ (k.cls ≠ .toll ∧ s.pg.tune k.number = some ⟨250, 8, 600, 1, 1, 0, .ready⟩)) := by decide

/-- The inner hypotheses of `Obligations.CheckingAndLoadingEnd`, clause 1: a used channel not at rest, and none. -/
theorem witness_fails : (∃ n k, n < checking.st.channels.length ∧ ((readStationBlock checking.mem).getD checking.st.cfg).channels[n]? = some k ∧
      k.bell.isSome = true ∧ checking.st.showsRest n = false) ∧
    let still : State := { checking with st := { checking.st with channels := [] } }
    ¬∃ n k, n < still.st.channels.length ∧ ((readStationBlock still.mem).getD still.st.cfg).channels[n]? = some k ∧
      k.bell.isSome = true ∧ still.st.showsRest n = false :=
  ⟨⟨1, bellCfg 2 80, by decide, by decide +kernel, by decide, by decide⟩, fun ⟨_, _, h, _⟩ => by simp at h⟩

/-- The hypotheses of `Obligations.CheckingAndLoadingEnd`, clause 2.2.2.2. -/
theorem witness_stored : Memory.wf [] = true ∧ 63 < 64 ∧
    storedProgramme.tunes = (List.replicate 64 none).set 63 (some ⟨250, 8, 600, 1, 1, 0, .ready⟩) ∧
    (1 : Nat) ≤ 250 ∧ (1 : Nat) ≤ 8 ∧ 8 ≤ 4096 ∧ 150 ≤ 600 ∧ 600 ≤ 2000 ∧ 1 = storedProgramme.notes.length ∧
    storedProgramme.notes.length ≤ 2048 ∧ TuneState.ready ≠ .opened ∧
    (∀ n ∈ storedProgramme.notes, n.offset < 65536 ∧ n.bell < 256 ∧ 1 ≤ n.velocity ∧ n.velocity ≤ 4 ∧ cfg.isOwn n.bell = true) ∧
    offsetsRise storedProgramme.notes = true ∧ storedProgramme.calendar.length = 96 ∧
    (∀ c ∈ storedProgramme.calendar, ∀ e ∈ c, entryOf e.entry.bytes = some e.entry) ∧ storedProgramme.dusk.length = 46 ∧
    (∀ d ∈ storedProgramme.dusk, ∃ minute, d = some minute ∧ minute < 1440) ∧ storedProgramme.scenes.length = 16 ∧
    storedProgramme.scenes.getD 0 0 = 0 :=
  ⟨by decide, by decide, by rfl, by decide, by decide, by decide, by decide, by decide, by decide, by decide, by decide, by decide,
    by decide, by decide, by decide, by decide, fun d h => ⟨1439, by simpa [storedProgramme] using h, by decide⟩, by decide, by decide⟩

end Sys2Proof.Tests
end

section
/-! ## The dates of a day number (R13): one equation per kind of year, with the range of the day of year -/

namespace Sys2Proof.Proofs.Dates

open Sys2Proof Sys2Proof.Machine

variable {n : Nat}

theorem weekday_eq (n : Nat) : weekday n = (n + 5) % 7 := rfl

/-! The year of 366 days opens each cycle. -/

theorem dayOfYear_of_long (h : n % 1461 < 366) : dayOfYear n = n % 1461 := if_pos h

theorem yearOf_of_long (h : n % 1461 < 366) : yearOf n = 2000 + 4 * (n / 1461) := by
  rw [yearOf, if_pos (show cyclePosition n < 366 from h), Nat.add_zero]

theorem dayOfYear_le_of_long (h : n % 1461 < 366) : dayOfYear n ≤ 365 := by
  rw [dayOfYear_of_long h]
  exact Nat.le_of_lt_succ h

/-! The three years of 365 days follow it. -/

theorem dayOfYear_of_short (h : 366 ≤ n % 1461) : dayOfYear n = (n % 1461 - 366) % 365 := if_neg (Nat.not_lt.mpr h)

theorem yearOf_of_short (h : 366 ≤ n % 1461) :
    yearOf n = 2000 + 4 * (n / 1461) + (1 + (n % 1461 - 366) / 365) := by
  rw [yearOf, if_neg (show ¬cyclePosition n < 366 from Nat.not_lt.mpr h), cyclePosition]

theorem dayOfYear_le_of_short (h : 366 ≤ n % 1461) : dayOfYear n ≤ 364 := by
  rw [dayOfYear_of_short h]
  exact Nat.le_of_lt_succ (Nat.mod_lt _ (by decide))

/-- A position is at most 1,460, so the days after the long year fill three years and no more. -/
theorem shortYear_le (n : Nat) : (n % 1461 - 366) / 365 ≤ 2 := by
  have hpos : n % 1461 < 1461 := Nat.mod_lt _ (by decide)
  omega

/-- Settles O16: the long year of a cycle and its short years, each by its own equations. -/
theorem datesFollowTheCycle : Obligations.DatesFollowTheCycle := by
  unfold Obligations.DatesFollowTheCycle
  refine fun n => ⟨weekday_eq n, weekday_eq 0, fun hlong => ?long, fun hshort => ?short⟩
  case long => exact ⟨dayOfYear_of_long hlong, yearOf_of_long hlong, dayOfYear_le_of_long hlong⟩
  case short => exact ⟨dayOfYear_of_short hshort, yearOf_of_short hshort, dayOfYear_le_of_short hshort, shortYear_le n⟩

end Sys2Proof.Proofs.Dates
end

section
/-! The alarm output (R191): what it is in each run state, as the table of standing conditions gives it. -/

namespace Sys2Proof.Proofs.Alarm
open Sys2Proof.Machine

variable {s : Station}

/-- The standing conditions taken in RUNNING: a faulted channel, dial or circuit, MUTE, DUPLICATE, the time-valid flag clear. -/
def StandsInRunning (s : Station) : Prop :=
  (∃ c ∈ s.channels, c.state = .faulted) ∨ (∃ d ∈ s.dials, d.state = .faulted) ∨
    (∃ c ∈ s.sup.circuits, c.state = .faulted) ∨ s.bus.state = .mute ∨ s.bus.state = .duplicate ∨ s.tb.valid = false

theorem alarm_of_running (h : s.seq.state = .running) : s.alarm = true ↔ StandsInRunning s := by
  simp [Station.alarm, h, StandsInRunning, or_assoc]

/-- Of the standing conditions LISTENING takes DUPLICATE alone. -/
theorem alarm_of_listening (h : s.seq.state = .listening) : s.alarm = true ↔ s.bus.state = .duplicate := by
  simp [Station.alarm, h]

/-- UNCONFIGURED is a standing condition of its own. -/
theorem alarm_of_unconfigured (h : s.seq.state = .unconfigured) : s.alarm = true := by
  simp [Station.alarm, h]

/-- Before the blocks are in service the output is released with the other outputs (R175). -/
theorem alarm_of_starting (h : s.seq.state = .supplyWait ∨ s.seq.state = .checking ∨ s.seq.state = .loading) :
    s.alarm = false := by
  rcases h with h | h | h <;> simp [Station.alarm, h]

theorem alarm_iff : s.alarm = true ↔
    (s.seq.state = .running ∧ StandsInRunning s) ∨ (s.seq.state = .listening ∧ s.bus.state = .duplicate) ∨
      s.seq.state = .unconfigured := by
  cases h : s.seq.state with
  | running => simp [alarm_of_running h]
  | listening => simp [alarm_of_listening h]
  | unconfigured => simp [alarm_of_unconfigured h]
  | supplyWait => simp [alarm_of_starting (.inl h)]
  | checking => simp [alarm_of_starting (.inr (.inl h))]
  | loading => simp [alarm_of_starting (.inr (.inr h))]

/-- The output reads nothing the panel service owns, the anomaly summary included. -/
theorem alarm_withPanel (s : Station) (p : Panel) : ({ s with panel := p } : Station).alarm = s.alarm := rfl

/-- Settles O60: the output's cases by run state, and its independence of the panel's record. -/
theorem alarmFollowsTheConditions : Obligations.AlarmFollowsTheConditions := by
  unfold Obligations.AlarmFollowsTheConditions
  exact fun s => ⟨alarm_iff, alarm_withPanel s⟩

end Sys2Proof.Proofs.Alarm
end
